-- ==== Sys2Proof/Word.lean ====
section
/-! DEFINITION. The KF3120's smallest pieces of data: a byte, one four-lane beat of the buffer bus and its byte enables
(00_scope.md "Conventions", 10_formats_and_signals.md R180). Numbers that the data sheet computes with are `Nat`
(00_scope.md "Arithmetic": "All computed quantities are non-negative integers"). -/

namespace Sys2Proof

/-- A byte of the link or of buffer memory. -/
abbrev Byte := BitVec 8

/-- The data of one beat, lane by lane: lane n carries the byte at beat address + n (R180). -/
structure Beat where
  lane0 : Byte
  lane1 : Byte
  lane2 : Byte
  lane3 : Byte
deriving DecidableEq, Repr

/-- The byte enables of one write beat: enable n qualifies lane n (R180). -/
structure Enables where
  en0 : Bool
  en1 : Bool
  en2 : Bool
  en3 : Bool
deriving DecidableEq, Repr

end Sys2Proof
end

