-- ==== Sys2Proof/Syntax.lean ====
section
/-! DEFINITION. The commands of the KF3120: one constructor per row of spec/opcode_table.json, in the table's order. Three
parties give them: the burner controller and the buffer memory over the buffer bus, and the station controller over the
maintenance link; HOLD_EXPIRY, REPORT_POP and SNAPSHOT_TAKEN are the part's own events. -/

namespace Sys2Proof

/-- One command or event (95_what_each_step_holds.md: each whole and indivisible). A link request carries the argument
byte of its transaction (R169), and an input request the payload bytes clocked after it, however many they are. -/
inductive Instr where
  /-- BURNER_TRANSFER_START (R1): direction BWR, start address BA, beat count minus 1 BLEN (section 10.7). -/
  | burnerTransferStart (write : Bool) (addr : BitVec 26) (blen : BitVec 4)
  /-- WRITE_BEAT_ACCEPTED (R5): the next write beat, with the data and enables the burner presents for it. -/
  | writeBeatAccepted (data : Beat) (enables : Enables)
  /-- READ_BEAT_DATA (R12): the data the memory returns for the next beat of a burner read's part. -/
  | readBeatData (data : Beat)
  /-- MEMORY_TRANSFER_COMPLETE (R13): the transfer on the memory side completes; for an engine fetch, with the data the
  memory returned for its beats. -/
  | memoryTransferComplete (data : List Beat)
  /-- HOLD_EXPIRY (R134): the held read's tick count reaches the hold budget. -/
  | holdExpiry
  /-- RESET (R179): power-on or the RESET line. -/
  | reset
  /-- TRANSACTION_BEGIN (R169): LSEL falls. -/
  | transactionBegin
  /-- TRANSACTION_END (R171): LSEL rises. -/
  | transactionEnd
  /-- IDENTIFY, code 0x01 (R173). -/
  | identify (arg : Byte)
  /-- READ_SETTINGS, code 0x02 (R173). -/
  | readSettings (arg : Byte)
  /-- WRITE_SETTINGS, code 0x03 (R173), with the payload bytes clocked in this transaction. -/
  | writeSettings (arg : Byte) (payload : List Byte)
  /-- ARM, code 0x04 (R165). -/
  | arm (arg : Byte)
  /-- END_RUN, code 0x05 (R168). -/
  | endRun (arg : Byte)
  /-- READ_REPORT, code 0x06 (R174). -/
  | readReport (arg : Byte)
  /-- REPORT_POP (R174): the 36th reply byte of a READ REPORT has been clocked. -/
  | reportPop
  /-- READ_COUNTERS, code 0x07 (R175). -/
  | readCounters (arg : Byte)
  /-- READ_QUALITY, code 0x08 (R175). -/
  | readQuality (arg : Byte)
  /-- MAP_QUERY, code 0x09 (R176). -/
  | mapQuery (arg : Byte)
  /-- SNAPSHOT_TAKEN (R79): the map is not in the middle of a change. -/
  | snapshotTaken
  /-- MAP_FETCH, code 0x0A (R176). -/
  | mapFetch (arg : Byte)
  /-- READ_ATTENTION, code 0x0B (R177). -/
  | readAttention (arg : Byte)
  /-- CLEAR_ATTENTION, code 0x0C (R177), with the payload bytes clocked in this transaction. -/
  | clearAttention (arg : Byte) (payload : List Byte)
  /-- SET_ATTENTION_ENABLE, code 0x0D (R177), with the payload bytes clocked in this transaction. -/
  | setAttentionEnable (arg : Byte) (payload : List Byte)
  /-- UNKNOWN_REQUEST_CODE (R171): a request code that the table of section 9.6 does not list. -/
  | unknownRequestCode (code : Byte) (arg : Byte)
deriving DecidableEq, Repr

end Sys2Proof
end

