-- ==== Sys2Proof/Config.lean ====
section
/-! DEFINITION. The fixed numbers of the KF3120, each with the rule that states it. The data sheet leaves no value of this
part free, so the file holds no opaque constant. -/

namespace Sys2Proof.Config

/-- The span pool: 1024 records (R61, R173). -/
def poolSize : Nat := 1024

/-- The per-slot span limit: 24 (R63, R173). -/
def spanLimit : Nat := 24

/-- The largest slot count: 64 (R162, R173). -/
def maxSlots : Nat := 64

/-- The report queue holds up to 32 records (R154). -/
def queueDepth : Nat := 32

/-- Buffer memory is 64 MiB: addresses 0 to 67,108,863 (00_scope.md "Addresses", R165). -/
def memorySize : Nat := 67108864

/-- The largest value of a run counter (R157). -/
def counterMax : Nat := 4294967295

/-- The largest sample value that enters the concealment arithmetic (R82). -/
def sampleMax : Nat := 1023

/-- Vendor code of the IDENTIFY reply (section 10.5). -/
def vendorCode : Byte := 0xA5

/-- Part code of the IDENTIFY reply (section 10.5). -/
def partCode : Byte := 0x31

/-- Revision of the IDENTIFY reply (section 10.5). -/
def revision : Byte := 0x01

/-- Payload length of WRITE SETTINGS (section 9.6). -/
def settingsLength : Nat := 56

/-- Payload length of CLEAR ATTENTION and SET ATTENTION ENABLE (section 9.6). -/
def attentionLength : Nat := 2

end Sys2Proof.Config
end

