-- ==== Sys2Proof/Machine/State.lean ====
section
/-! DEFINITION. The state of the KF3120 as plain data, block by block as the table of 00_scope.md "Block overview" divides it,
the reasons a step can stop, and the state after reset (R17, R41, R59, R64, R79, R123, R144, R159, R162, R179). Buffer
memory is another module on the memory side and is no state of the part (notes/assumptions/1.md). -/

namespace Sys2Proof.Machine

/-! ### Run control and settings (09) -/

/-- The run state (R161). -/
inductive RunState where
  | off
  | armed
  | running
deriving DecidableEq, Repr

/-- The scan setting (R162). -/
inductive Scan where
  | progressive
  | interleaved
deriving DecidableEq, Repr

/-- The sample byte order setting (R162, R180). -/
inductive ByteOrder where
  | lowFirst
  | highFirst
deriving DecidableEq, Repr

/-- The geometry group of the active settings: B, C, Sp, N, L, P, scan, byte order, LO and HI (R162). -/
structure Geometry where
  base : Nat
  slots : Nat
  slotPitch : Nat
  lines : Nat
  samples : Nat
  linePitch : Nat
  scan : Scan
  order : ByteOrder
  lo : Nat
  hi : Nat
deriving DecidableEq, Repr

/-- Six numbers, one for each repair grade 1 to 6: grade weights (R162) and grade counts (R146). -/
structure Grades where
  g1 : Nat
  g2 : Nat
  g3 : Nat
  g4 : Nat
  g5 : Nat
  g6 : Nat
deriving DecidableEq, Repr

/-- The quality thresholds T1 to T7 (R149). -/
structure Thresholds where
  t1 : Nat
  t2 : Nat
  t3 : Nat
  t4 : Nat
  t5 : Nat
  t6 : Nat
  t7 : Nat
deriving DecidableEq, Repr

/-- The repair group of the active settings (R162). -/
structure RepairSettings where
  tolerance : Nat
  reach : Nat
  tStill : Nat
  tMove : Nat
  wDefault : Nat
  holdBudget : Nat
  holdAllowance : Nat
  urgency : Nat
  urgentPrecedence : Bool
  stationTag : Nat
  weights : Grades
  recovery : Nat
  alarm : Nat
  thresholds : Thresholds
deriving DecidableEq, Repr

/-- The staged copy: every field of the 56-byte block at the width of its layout, unchecked (R162, R181). Byte 5 keeps
its eight bits; byte 41 has no field, since it is ignored on input. -/
structure Staged where
  base : BitVec 32
  slots : BitVec 8
  modes : BitVec 8
  slotPitch : BitVec 32
  lines : BitVec 16
  samples : BitVec 16
  linePitch : BitVec 16
  lo : BitVec 16
  hi : BitVec 16
  tolerance : BitVec 8
  reach : BitVec 8
  tStill : BitVec 16
  tMove : BitVec 16
  wDefault : BitVec 8
  holdBudget : BitVec 8
  holdAllowance : BitVec 16
  urgency : BitVec 8
  urgentPrecedence : BitVec 8
  stationTag : BitVec 8
  w1 : BitVec 8
  w2 : BitVec 8
  w3 : BitVec 8
  w4 : BitVec 8
  w5 : BitVec 8
  w6 : BitVec 8
  recovery : BitVec 8
  alarm : BitVec 8
  t1 : BitVec 16
  t2 : BitVec 16
  t3 : BitVec 16
  t4 : BitVec 16
  t5 : BitVec 16
  t6 : BitVec 16
  t7 : BitVec 16
deriving DecidableEq, Repr

/-- Run control and settings: the run state, the staged copy, the active copy in its two groups, the settings-pending flag
and the last refusal reason (R161, R162). -/
structure Control where
  run : RunState
  staged : Staged
  geometry : Geometry
  repair : RepairSettings
  settingsPending : Bool
  refusal : Nat
deriving DecidableEq, Repr

/-! ### Pass-through port and arbiter (01) -/

/-- Where a burner transfer stands (R1); IDLE is the port with no transfer. -/
inductive TransferMode where
  | waiting
  | forwarding
  | held
deriving DecidableEq, Repr

/-- What the delivery unit remembers of a beat of the DRAINING slot that is on its way back: its line and line offset
(R126). -/
structure BeatTag where
  line : Nat
  offset : Nat
deriving DecidableEq, Repr

/-- The burner transfer context (R1): direction, start address, beat count, index of the next beat to be delivered and
port state; the write beats as they arrived; whether the rest of the transfer is forwarded unchanged because of the run
state it began in, END RUN or reset (R4, R16, R17); whether its beats are outside the ring even in a later ARMED, because it began
in OFF or its run ended (R4, R16, R17, R166); whether a hold has been asked for at the beat after the part on the
memory side (R10); and, for a read, the part's beats still to return, each with its tag if it is a beat of a drain. -/
structure BurnerTransfer where
  write : Bool
  addr : Nat
  beats : Nat
  next : Nat
  mode : TransferMode
  written : List (Beat × Enables)
  unchanged : Bool
  outside : Bool
  holdAsked : Bool
  inPart : List (Option BeatTag)
deriving DecidableEq, Repr

/-- The pass-through port: the burner transfer in progress, if any, and the data pins BRD as last driven (section 10.7). -/
structure Port where
  transfer : Option BurnerTransfer
  brd : Beat
deriving DecidableEq, Repr

/-- A transfer on the memory side (section 1): address, direction and beat count as put on MA, MWR and MLEN; the bytes of
an engine write, lane by lane in address order, `none` where the byte enable is clear (R106). An `orphan` is an engine
transfer whose job has been aborted (R119). -/
structure MemTransfer where
  byEngine : Bool
  write : Bool
  addr : Nat
  beats : Nat
  lanes : List (Option Byte)
  orphan : Bool
deriving DecidableEq, Repr

/-- The memory-side arbiter: the transfer on the memory side, which names the owner, and the pass-over mark (R13). -/
structure Arbiter where
  onBus : Option MemTransfer
  passOver : Bool
deriving DecidableEq, Repr

/-! ### Ring tracker (02) -/

/-- A slot's state (R20). -/
inductive SlotState where
  | empty
  | filling
  | filled
  | draining
  | drained
deriving DecidableEq, Repr

/-- A slot's flags (R20, R21). -/
structure SlotFlags where
  lossy : Bool
  stale : Bool
  seek : Bool
  overtake : Bool
  overwritten : Bool
deriving DecidableEq, Repr

/-- One entry of the slot table: state, frame number, flags and unchecked-from line h (R20). -/
structure SlotEntry where
  state : SlotState
  frame : BitVec 32
  flags : SlotFlags
  uncheckedFrom : Nat
deriving DecidableEq, Repr

/-- The lock sub-state while RUNNING (R22). -/
inductive Lock where
  | locked
  | seeking
deriving DecidableEq, Repr

/-- The ring tracker (R20, R22): the slot table; lock sub-state, `none` outside RUNNING; LOCK_HELD; fill slot and whether its
fill is open; DRAINING slot; next frame number; drain frame number. -/
structure Ring where
  slots : List SlotEntry
  lock : Option Lock
  lockHeld : Bool
  fillSlot : Option Nat
  fillOpen : Bool
  draining : Option Nat
  nextFrame : BitVec 32
  drainFrame : BitVec 32
deriving DecidableEq, Repr

/-! ### Line checker (03) -/

/-- The check status of a line of the fill slot (R47). -/
inductive LineStatus where
  | unwritten
  | lineOpen
  | passed
  | failed
  | torn
  | rewritten
  | missing
deriving DecidableEq, Repr

/-- Stored line number and deck flags, from the trailer bytes 0 to 3 beat (R48, R50). -/
structure StoredTrailer where
  number : Nat
  deck : Byte
deriving DecidableEq, Repr

/-- The open-line context (R48). -/
structure OpenLine where
  line : Nat
  next : Nat
  crc : BitVec 16
  illegal : Nat
  stored : Option StoredTrailer
deriving DecidableEq, Repr

/-- The line checker: the open-line context and the fill line table (R47, R48). -/
structure Checker where
  context : Option OpenLine
  table : List LineStatus
deriving DecidableEq, Repr

/-! ### Damage map (04) -/

/-- A set of causes of line damage (R51, R61). -/
structure Causes where
  check : Bool
  deck : Bool
  range : Bool
  number : Bool
  torn : Bool
  rewrite : Bool
  missing : Bool
deriving DecidableEq, Repr

/-- A span's state (R62). -/
inductive SpanState where
  | waiting
  | queued
  | active
  | done
  | abandoned
deriving DecidableEq, Repr

/-- A span's engine tallies, for grades 1, 2, 3, 4 and 6 (R61). -/
structure Tallies where
  g1 : Nat
  g2 : Nat
  g3 : Nat
  g4 : Nat
  g6 : Nat
deriving DecidableEq, Repr

/-- A span record in use (R61). Its slot is the place of its list in `DamageMap.spans`. -/
structure Span where
  first : Nat
  last : Nat
  causes : Causes
  absorbed : Nat
  state : SpanState
  progress : Nat
  tallies : Tallies
deriving DecidableEq, Repr

/-- The damage map: for each slot the list of its spans (R63). A free record holds nothing, so the pool is the records that
no list uses, and its count is 1024 less the spans listed (R64). -/
structure DamageMap where
  spans : List (List Span)
deriving DecidableEq, Repr

/-! ### Repair engine (05, 06) -/

/-- The engine's phase (R104). -/
inductive Phase where
  | idle
  | gather
  | lineFetch
  | storedRead
  | writeBack
deriving DecidableEq, Repr

/-- The spatial kind of a field run (R85). -/
inductive SpatialKind where
  | interpolation
  | edgeCopy
  | none
deriving DecidableEq, Repr

/-- A field record (R85): the run's field and extent, the boundary lines found, their sample values once fetched, the pairs
and D of the motion figure, M (`none` when undefined), w and the spatial kind. -/
structure FieldRecord where
  field : Nat
  first : Nat
  last : Nat
  above : Option Nat
  below : Option Nat
  aboveValues : List Nat
  belowValues : List Nat
  pairs : Nat
  diff : Nat
  motion : Option Nat
  weight : Nat
  kind : SpatialKind
deriving DecidableEq, Repr

/-- What a fetch of the gather list is for (R107). -/
inductive FetchRole where
  | boundaryAbove
  | boundaryBelow
  | referenceAbove
  | referenceBelow
deriving DecidableEq, Repr

/-- A sample fetch of the gather list (R107): whose field run it serves, and the slot and line it reads. -/
structure Fetch where
  role : FetchRole
  field : Nat
  slot : Nat
  line : Nat
deriving DecidableEq, Repr

/-- A span as the repair order and a job name it: its slot and first line, which do not change once it is QUEUED. -/
structure SpanRef where
  slot : Nat
  first : Nat
deriving DecidableEq, Repr

/-- The job for the ACTIVE span: phase; the span's slot and lines; the settings taken at the gather (R98); the field records;
the fetches of the gather still to finish; the run of bytes in hand, from the next byte to issue up to its end (R106), and
the bytes it has returned; and, once line r is computed, its grade, trailer bytes 0 to 3 and the bytes still to write (R99). -/
structure Job where
  phase : Phase
  slot : Nat
  first : Nat
  last : Nat
  reach : Nat
  tStill : Nat
  tMove : Nat
  wDefault : Nat
  fields : List FieldRecord
  gather : List Fetch
  next : Nat
  stop : Nat
  fetched : List Byte
  grade : Nat
  head : List Byte
  lanes : List (Option Byte)
deriving DecidableEq, Repr

/-- The repair engine: the repair order, the job (`none` is IDLE), and whether its claim waits at the arbiter (R13, R102,
R104). -/
structure Engine where
  order : List SpanRef
  job : Option Job
  claiming : Bool
deriving DecidableEq, Repr

/-! ### Delivery unit (07) -/

/-- An entry of a drain record's line table (R125). -/
inductive LineEntry where
  | unreached
  | passedHandled
  | passedUnhandled
  | held
  | clean
  | handled
  | redirected (slot : Nat) (line : Nat)
  | damaged
  | asStored
deriving DecidableEq, Repr

/-- How a frame's record ended (R124, R147); `stillOpen` is OPEN. -/
inductive EndKind where
  | stillOpen
  | complete
  | overwritten
  | cutOff
deriving DecidableEq, Repr

/-- A drain record (R124). `inFlight` counts the beats taken under the drain whose data has not passed through yet (R126). -/
structure DrainRecord where
  frame : BitVec 32
  slot : Nat
  endKind : EndKind
  holdBudget : Nat
  holdAllowance : Nat
  allowanceLeft : Nat
  stationTag : Nat
  reach : Nat
  position : Option Nat
  lines : List LineEntry
  holdCount : Nat
  holdTime : Nat
  signature : BitVec 32
  unverified : Nat
  redirectedTally : Nat
  damagedTally : Nat
  inFlight : Nat
deriving DecidableEq, Repr

/-- The held-read context: the held line and the tick count (R131). -/
structure HeldRead where
  line : Nat
  ticks : Nat
deriving DecidableEq, Repr

/-- The line delivery context (R136); `next = none` is BROKEN. -/
structure LineContext where
  line : Nat
  next : Option Nat
  crc : BitVec 16
  headMark : Bool
deriving DecidableEq, Repr

/-- The delivery unit: the DRAINING slot's record, the closing record (R126), the held-read context, the line delivery
context, and the line whose trailer bytes 0 to 3 were the last beat to pass, as stored and counted unverified (R139). -/
structure Delivery where
  record : Option DrainRecord
  closing : Option DrainRecord
  held : Option HeldRead
  context : Option LineContext
  countedHead : Option Nat
deriving DecidableEq, Repr

/-! ### Report unit (08) -/

/-- A frame report (R146, R147). -/
structure FrameReport where
  frame : BitVec 32
  slot : Nat
  endKind : EndKind
  drainStarted : Bool
  flags : SlotFlags
  grades : Grades
  damaged : Nat
  absorbed : Nat
  impairment : Nat
  quality : Nat
  holdCount : Nat
  holdTime : Nat
  allowanceLeft : Nat
  signature : BitVec 32
  unverified : Nat
  gap : Nat
deriving DecidableEq, Repr

/-- The sixteen run counters, in the order of R157. -/
structure Counters where
  framesFilled : Nat
  framesDrained : Nat
  framesOverwritten : Nat
  framesStale : Nat
  linesChecked : Nat
  linesDamaged : Nat
  linesAbsorbed : Nat
  linesLost : Nat
  chromaLines : Nat
  linesRepaired : Nat
  linesRedirected : Nat
  linesPassedDamaged : Nat
  holdsTaken : Nat
  holdExpiries : Nat
  trailersUnverified : Nat
  lockLosses : Nat
deriving DecidableEq, Repr

/-- The names of the sixteen run counters (R157). -/
inductive Counter where
  | framesFilled
  | framesDrained
  | framesOverwritten
  | framesStale
  | linesChecked
  | linesDamaged
  | linesAbsorbed
  | linesLost
  | chromaLines
  | linesRepaired
  | linesRedirected
  | linesPassedDamaged
  | holdsTaken
  | holdExpiries
  | trailersUnverified
  | lockLosses
deriving DecidableEq, Repr

/-- The report unit: report queue, oldest first; pending gap count; RQ; WQ; last Q; recovery count; run counters (08). -/
structure Reports where
  queue : List FrameReport
  gap : Nat
  runQuality : Nat
  worstQuality : Nat
  lastQuality : Nat
  recovery : Nat
  counters : Counters
deriving DecidableEq, Repr

/-! ### Maintenance link and attention (09) -/

/-- The requests with an input payload (section 9.6). -/
inductive InputRequest where
  | writeSettings
  | clearAttention
  | setAttentionEnable
deriving DecidableEq, Repr

/-- How far a transaction has come (R169): before its request; a request taken and nothing left to do; an input request
with the payload bytes clocked so far; a READ REPORT whose record has not been clocked out (R174). -/
inductive TransactionPhase where
  | awaiting
  | taken
  | collecting (request : InputRequest) (got : List Byte)
  | reporting
deriving DecidableEq, Repr

/-- The transaction context: the status word captured at the fall of LSEL, whether LOCK_HELD fell since (R24), the phase and
the reply bytes that LDO gives from byte 2 (R172). -/
structure Transaction where
  status : BitVec 16
  lockFell : Bool
  phase : TransactionPhase
  reply : List Byte
deriving DecidableEq, Repr

/-- The select line as the link block sees it: LSEL high; LSEL still low after a reset and ignored until it rises (R179);
a transaction in progress. -/
inductive LinkLine where
  | high
  | ignored
  | active (t : Transaction)
deriving DecidableEq, Repr

/-- A READY snapshot (R80). -/
structure Snapshot where
  slot : Nat
  state : SlotState
  flags : SlotFlags
  frame : BitVec 32
  spans : List Span
  free : Nat
deriving DecidableEq, Repr

/-- The map-query snapshot holder (R79). -/
inductive Holder where
  | none
  | gathering (slot : Nat)
  | ready (snapshot : Snapshot)
deriving DecidableEq, Repr

/-- The ten attention causes, in the bit order of section 10.5. -/
inductive Cause where
  | reportReady
  | reportLost
  | lockLost
  | armRefused
  | qualityLow
  | damageLost
  | frameOverwritten
  | overtake
  | slotStale
  | allowanceSpent
deriving DecidableEq, Repr

/-- The maintenance link block: link line and transaction, REQUEST_BAD, the attention causes and enables by the bit numbers
of section 10.5, and the snapshot holder (R170, R177). -/
structure Link where
  line : LinkLine
  requestBad : Bool
  causes : BitVec 10
  enables : BitVec 10
  holder : Holder
deriving DecidableEq, Repr

/-! ### The whole -/

/-- The part's blocks: everything a command can change. -/
structure Device where
  control : Control
  port : Port
  arbiter : Arbiter
  ring : Ring
  checker : Checker
  map : DamageMap
  engine : Engine
  delivery : Delivery
  reports : Reports
  link : Link
deriving DecidableEq, Repr

/-- The machine: the part, and the queue of the commands that wait, first in, first out. -/
structure State extends Device where
  pending : List Instr
deriving DecidableEq, Repr

/-- Why the machine stops: an event that the bus handshake or the select line rules out. The data sheet gives none of them
an effect, because none can be given to the part. Each stop is safe: the model goes on nowhere the part would not. -/
inductive Fault where
  /-- BURNER_TRANSFER_START while a burner transfer is in progress: R1 says the port never receives one. Safe. -/
  | portBusy
  /-- BURNER_TRANSFER_START at an address that is no multiple of 4 or with a beat beyond the 26-bit address space
  (00_scope.md "Addresses"). Safe. -/
  | noSuchAddress
  /-- WRITE_BEAT_ACCEPTED while no burner write is on the memory side, or after its last beat (R2). Safe. -/
  | noWriteBeat
  /-- READ_BEAT_DATA while no burner read is on the memory side with a beat still to return (R3). Safe. -/
  | noReadBeat
  /-- MEMORY_TRANSFER_COMPLETE while the owner is FREE (R13). Safe. -/
  | noTransfer
  /-- MEMORY_TRANSFER_COMPLETE while beats of the burner's memory-side transfer are outstanding (R2, R3). Safe. -/
  | beatsOutstanding
  /-- MEMORY_TRANSFER_COMPLETE with data for another number of beats than the transfer's fetch has (section 1). Safe. -/
  | wrongFetchLength
  /-- TRANSACTION_BEGIN while LSEL is low: it cannot fall (R169). Safe. -/
  | selectLow
  /-- TRANSACTION_END while LSEL is high: it cannot rise (R169). Safe. -/
  | selectHigh
deriving DecidableEq, Repr

/-- Why the machine has no meaning for a command term. -/
inductive Refusal where
  /-- Raised by exec's arm of a command that has no meaning yet; no arm does. Safe. -/
  | notModelled (mnemonic : String)
  /-- UNKNOWN_REQUEST_CODE with a code that the table of section 9.6 lists: the term stands for no event. Safe. -/
  | codeIsKnown
deriving DecidableEq, Repr

/-! ### Reset -/

/-- The staged copy at the defaults of R162. Byte 31, whose default R162 gives as "on", is 0x01. DESIGN CHOICE
(notes/assumptions/29.md). -/
def Staged.default : Staged :=
  { base := 0, slots := 0, modes := 0, slotPitch := 0, lines := 0, samples := 0, linePitch := 0, lo := 0, hi := 0,
    tolerance := 4, reach := 4, tStill := 4, tMove := 40, wDefault := 8, holdBudget := 40, holdAllowance := 2000,
    urgency := 2, urgentPrecedence := 1, stationTag := 0, w1 := 1, w2 := 2, w3 := 3, w4 := 4, w5 := 6, w6 := 12,
    recovery := 25, alarm := 3, t1 := 1, t2 := 8, t3 := 32, t4 := 96, t5 := 256, t6 := 640, t7 := 1536 }

/-- The active geometry at the defaults of R162. -/
def Geometry.default : Geometry :=
  { base := 0, slots := 0, slotPitch := 0, lines := 0, samples := 0, linePitch := 0, scan := .progressive,
    order := .lowFirst, lo := 0, hi := 0 }

/-- The active repair settings at the defaults of R162. -/
def RepairSettings.default : RepairSettings :=
  { tolerance := 4, reach := 4, tStill := 4, tMove := 40, wDefault := 8, holdBudget := 40, holdAllowance := 2000,
    urgency := 2, urgentPrecedence := true, stationTag := 0,
    weights := { g1 := 1, g2 := 2, g3 := 3, g4 := 4, g5 := 6, g6 := 12 }, recovery := 25, alarm := 3,
    thresholds := { t1 := 1, t2 := 8, t3 := 32, t4 := 96, t5 := 256, t6 := 640, t7 := 1536 } }

/-- Every counter at 0 (R159). -/
def Counters.zero : Counters :=
  { framesFilled := 0, framesDrained := 0, framesOverwritten := 0, framesStale := 0, linesChecked := 0,
    linesDamaged := 0, linesAbsorbed := 0, linesLost := 0, chromaLines := 0, linesRepaired := 0, linesRedirected := 0,
    linesPassedDamaged := 0, holdsTaken := 0, holdExpiries := 0, trailersUnverified := 0, lockLosses := 0 }

/-- No flag set. -/
def SlotFlags.clear : SlotFlags :=
  { lossy := false, stale := false, seek := false, overtake := false, overwritten := false }

/-- An EMPTY entry of the slot table (R41); its frame number, which R41 does not give, is 0. DESIGN CHOICE
(notes/assumptions/16.md). -/
def SlotEntry.empty : SlotEntry :=
  { state := .empty, frame := 0, flags := .clear, uncheckedFrom := 0 }

/-- The ring tracker at its starting values, with C slots (R41 to R43). -/
def Ring.start (slots : Nat) : Ring :=
  { slots := List.replicate slots .empty, lock := none, lockHeld := false, fillSlot := none, fillOpen := false,
    draining := none, nextFrame := 0, drainFrame := 0 }

/-- The damage map with every record free (R77). -/
def DamageMap.start (slots : Nat) : DamageMap :=
  { spans := List.replicate slots [] }

/-- The line checker with an empty context and every entry UNWRITTEN (R59). -/
def Checker.start (lines : Nat) : Checker :=
  { context := none, table := List.replicate lines .unwritten }

/-- The engine IDLE with an empty order (R123). -/
def Engine.start : Engine :=
  { order := [], job := none, claiming := false }

/-- The delivery unit with no record and no context (R144). -/
def Delivery.start : Delivery :=
  { record := none, closing := none, held := none, context := none, countedHead := none }

/-- The report unit after reset (R159). -/
def Reports.start : Reports :=
  { queue := [], gap := 0, runQuality := 7, worstQuality := 7, lastQuality := 7, recovery := 0, counters := .zero }

/-- The run control block after reset (R179). -/
def Control.start : Control :=
  { run := .off, staged := .default, geometry := .default, repair := .default, settingsPending := false, refusal := 0 }

/-- The link block after a power-on reset, LSEL high (R179). -/
def Link.start : Link :=
  { line := .high, requestBad := false, causes := 0, enables := 0, holder := .none }

/-- The four lanes of BRD before any beat has been driven. DESIGN CHOICE, unsafe (notes/assumptions/2.md). -/
def Beat.zero : Beat :=
  { lane0 := 0, lane1 := 0, lane2 := 0, lane3 := 0 }

/-- The machine right after a power-on reset, with no command waiting. -/
def State.reset : State :=
  { control := .start, port := { transfer := none, brd := Beat.zero }, arbiter := { onBus := none, passOver := false },
    ring := .start 0, checker := .start 0, map := .start 0, engine := .start, delivery := .start, reports := .start,
    link := .start, pending := [] }

end Sys2Proof.Machine
end

