-- ==== Sys2Proof/Machine/Flags.lean ====
section
/-! DEFINITION. The flags and counts that every block raises: attention causes and the ATN condition (R177, R178), run
counters with their saturation (R157), the fall and reload of LOCK_HELD (R24), and the status word (R170, section 10.2). -/

namespace Sys2Proof.Machine

/-- The bit number of an attention cause (section 10.5). -/
def causeBit : Cause → Nat
  | .reportReady => 0
  | .reportLost => 1
  | .lockLost => 2
  | .armRefused => 3
  | .qualityLow => 4
  | .damageLost => 5
  | .frameOverwritten => 6
  | .overtake => 7
  | .slotStale => 8
  | .allowanceSpent => 9

/-- Set an attention cause; one already set stays set (R177). -/
def raise (c : Cause) (d : Device) : Device :=
  { d with link := { d.link with causes := d.link.causes ||| BitVec.ofNat 10 (2 ^ causeBit c) } }

/-- Some attention cause is set whose enable is set (R178). -/
def attention (d : Device) : Bool :=
  d.link.causes &&& d.link.enables != 0

/-- Pin ATN, open drain and active low: `true` while the part pulls it low (R178). -/
def atnAsserted (d : Device) : Bool := attention d

/-- Raise a run counter by k, stopping at 2^32 - 1 (R157). -/
def countTo (n k : Nat) : Nat := min (n + k) Config.counterMax

/-- The counter block with one counter raised by k. -/
def bumpCounter (c : Counter) (k : Nat) (n : Counters) : Counters :=
  match c with
  | .framesFilled => { n with framesFilled := countTo n.framesFilled k }
  | .framesDrained => { n with framesDrained := countTo n.framesDrained k }
  | .framesOverwritten => { n with framesOverwritten := countTo n.framesOverwritten k }
  | .framesStale => { n with framesStale := countTo n.framesStale k }
  | .linesChecked => { n with linesChecked := countTo n.linesChecked k }
  | .linesDamaged => { n with linesDamaged := countTo n.linesDamaged k }
  | .linesAbsorbed => { n with linesAbsorbed := countTo n.linesAbsorbed k }
  | .linesLost => { n with linesLost := countTo n.linesLost k }
  | .chromaLines => { n with chromaLines := countTo n.chromaLines k }
  | .linesRepaired => { n with linesRepaired := countTo n.linesRepaired k }
  | .linesRedirected => { n with linesRedirected := countTo n.linesRedirected k }
  | .linesPassedDamaged => { n with linesPassedDamaged := countTo n.linesPassedDamaged k }
  | .holdsTaken => { n with holdsTaken := countTo n.holdsTaken k }
  | .holdExpiries => { n with holdExpiries := countTo n.holdExpiries k }
  | .trailersUnverified => { n with trailersUnverified := countTo n.trailersUnverified k }
  | .lockLosses => { n with lockLosses := countTo n.lockLosses k }

/-- Count k in a run counter (R157). -/
def bumpBy (c : Counter) (k : Nat) (d : Device) : Device :=
  { d with reports := { d.reports with counters := bumpCounter c k d.reports.counters } }

/-- Count one in a run counter (R157). -/
def bump (c : Counter) (d : Device) : Device := bumpBy c 1 d

/-- The link line with the note that LOCK_HELD has fallen since the status word was captured (R24). -/
def noteLockFall : LinkLine → LinkLine
  | .active t => .active { t with lockFell := true }
  | l => l

/-- LOCK_HELD falls (R24); the event blocks the next reload even if LOCK_HELD is 0 already. DEDUCED (notes/assumptions/7.md). -/
def fallLockHeld (d : Device) : Device :=
  { d with ring := { d.ring with lockHeld := false }, link := { d.link with line := noteLockFall d.link.line } }

/-- The live bit LOCK (R24). -/
def lockBit (d : Device) : Bool :=
  d.control.run == .running && d.ring.lock == some .locked

/-- The status word has been clocked out in full: LOCK_HELD is loaded with LOCK, unless it fell since the capture (R24). -/
def reloadLockHeld (t : Transaction) (d : Device) : Device :=
  if t.lockFell then d else { d with ring := { d.ring with lockHeld := lockBit d } }

/-- The code of a run state (R161). -/
def runCode : RunState → BitVec 2
  | .off => 0
  | .armed => 1
  | .running => 2

/-- MAP_BUSY: the snapshot holder is GATHERING (R170). -/
def mapBusy (d : Device) : Bool :=
  match d.link.holder with
  | .gathering _ => true
  | .none => false
  | .ready _ => false

/-- ENGINE_ACTIVE: a span is ACTIVE, that is, the engine has a job (R104). DEDUCED (notes/assumptions/23.md). -/
def engineActive (d : Device) : Bool := d.engine.job.isSome

/-- The status word (R170), bits 15 down to 0 as section 10.2 lays them out. -/
def statusWord (d : Device) : BitVec 16 :=
  runCode d.control.run ++ BitVec.ofBool (lockBit d) ++ BitVec.ofBool d.ring.lockHeld ++ BitVec.ofBool (attention d)
    ++ BitVec.ofBool d.link.requestBad ++ BitVec.ofBool (mapBusy d) ++ BitVec.ofBool (engineActive d)
    ++ BitVec.ofNat 6 d.reports.queue.length ++ (0 : BitVec 2)

/-- A byte with the five slot flags at their bits (section 10.4 byte 1). -/
def flagsByte (f : SlotFlags) : Byte :=
  (0 : BitVec 3) ++ BitVec.ofBool f.overwritten ++ BitVec.ofBool f.overtake ++ BitVec.ofBool f.seek
    ++ BitVec.ofBool f.stale ++ BitVec.ofBool f.lossy

/-- A byte with the seven causes of line damage at their bits (section 10.6). -/
def causesByte (c : Causes) : Byte :=
  (0 : BitVec 1) ++ BitVec.ofBool c.missing ++ BitVec.ofBool c.rewrite ++ BitVec.ofBool c.torn
    ++ BitVec.ofBool c.number ++ BitVec.ofBool c.range ++ BitVec.ofBool c.deck ++ BitVec.ofBool c.check

end Sys2Proof.Machine
end

