-- ==== Sys2Proof/Machine/Operands.lean ====
section
/-! DEFINITION. The forms in which the part reads and writes numbers: lanes of a beat, 16-bit words of a line packet under the
sample byte order (R44, R180), big-endian fields of the link (R169), and the two checks computed over bytes, CRC-16 (R46)
and CRC-32 (R140). -/

namespace Sys2Proof.Machine

/-- The four bytes of a beat in ascending address order (R180). -/
def beatBytes (b : Beat) : List Byte :=
  [b.lane0, b.lane1, b.lane2, b.lane3]

/-- The bytes of several beats in ascending address order. -/
def beatsBytes (bs : List Beat) : List Byte :=
  bs.flatMap beatBytes

/-- A 16-bit word of a line packet from the byte at the lower address and the byte above it (R44, R180). -/
def packetWord (order : ByteOrder) (lower upper : Byte) : Nat :=
  match order with
  | .lowFirst => lower.toNat + 256 * upper.toNat
  | .highFirst => 256 * lower.toNat + upper.toNat

/-- The byte of a 16-bit packet word at the lower address (R94, R180). -/
def lowerByte (order : ByteOrder) (word : Nat) : Byte :=
  match order with
  | .lowFirst => BitVec.ofNat 8 (word % 256)
  | .highFirst => BitVec.ofNat 8 (word / 256)

/-- The byte of a 16-bit packet word at the higher address (R94, R180). -/
def upperByte (order : ByteOrder) (word : Nat) : Byte :=
  match order with
  | .lowFirst => BitVec.ofNat 8 (word / 256)
  | .highFirst => BitVec.ofNat 8 (word % 256)

/-- Packet words from bytes in ascending address order, two bytes to a word. -/
def packetWords (order : ByteOrder) : List Byte → List Nat
  | a :: b :: rest => packetWord order a b :: packetWords order rest
  | _ => []

/-- Packet words as bytes in ascending address order. -/
def packetBytes (order : ByteOrder) (words : List Nat) : List Byte :=
  words.flatMap fun w => [lowerByte order w, upperByte order w]

/-- A two-byte field of the link, most significant byte first (R169). -/
def field16 (v : BitVec 16) : List Byte :=
  [v.extractLsb' 8 8, v.extractLsb' 0 8]

/-- A four-byte field of the link, most significant byte first (R169). -/
def field32 (v : BitVec 32) : List Byte :=
  [v.extractLsb' 24 8, v.extractLsb' 16 8, v.extractLsb' 8 8, v.extractLsb' 0 8]

/-- A number as a one-byte field. -/
def byteOf (n : Nat) : Byte := BitVec.ofNat 8 n

/-- A number as a two-byte field, most significant byte first. -/
def nat16 (n : Nat) : List Byte := field16 (BitVec.ofNat 16 n)

/-- A number as a four-byte field, most significant byte first. -/
def nat32 (n : Nat) : List Byte := field32 (BitVec.ofNat 32 n)

/-- Byte k of a payload. -/
def payloadByte (p : List Byte) (k : Nat) : Byte := p.getD k 0

/-- The two-byte field of a payload that starts at byte k (R169). -/
def payload16 (p : List Byte) (k : Nat) : BitVec 16 :=
  payloadByte p k ++ payloadByte p (k + 1)

/-- The four-byte field of a payload that starts at byte k (R169). -/
def payload32 (p : List Byte) (k : Nat) : BitVec 32 :=
  payload16 p k ++ payload16 p (k + 2)

/-- One step of the CRC-16: the register's top bit combined with the incoming bit, a shift, and 0x1021 if the combined bit
was 1 (R46). -/
def crc16Bit (c : BitVec 16) (bit : Bool) : BitVec 16 :=
  if c.msb ^^ bit then (c <<< 1) ^^^ 0x1021 else c <<< 1

/-- The bits of a byte, most significant bit first (R46, R140). -/
def byteBits (b : Byte) : List Bool :=
  [b.getLsbD 7, b.getLsbD 6, b.getLsbD 5, b.getLsbD 4, b.getLsbD 3, b.getLsbD 2, b.getLsbD 1, b.getLsbD 0]

/-- The CRC-16 of R46 carried over a run of bytes. -/
def crc16 (c : BitVec 16) (bytes : List Byte) : BitVec 16 :=
  (bytes.flatMap byteBits).foldl crc16Bit c

/-- The initial value of the check word (R46). -/
def crc16Start : BitVec 16 := 0xFFFF

/-- One step of the CRC-32 (R140). -/
def crc32Bit (c : BitVec 32) (bit : Bool) : BitVec 32 :=
  if c.msb ^^ bit then (c <<< 1) ^^^ 0x04C11DB7 else c <<< 1

/-- The CRC-32 of R140 carried over a run of bytes. -/
def crc32 (c : BitVec 32) (bytes : List Byte) : BitVec 32 :=
  (bytes.flatMap byteBits).foldl crc32Bit c

/-- The initial value of the frame signature (R140). -/
def crc32Start : BitVec 32 := 0xFFFFFFFF

end Sys2Proof.Machine
end

