-- ==== Sys2Proof/Machine/Ops.lean ====
section
/-! DEFINITION. The named operations over the slot table and the span lists, the naming of an address (R18), what the damage
map answers (R78), the temporal reference (R39, R40) and the few list helpers they use. -/

namespace Sys2Proof.Machine

/-! ### Lists -/

/-- Apply a function to every element together with its place, counting from `k`. -/
def mapFrom {α : Type} (f : Nat → α → α) : Nat → List α → List α
  | _, [] => []
  | k, x :: xs => f k x :: mapFrom f (k + 1) xs

/-- Apply a function to the element at one place; a place beyond the end changes nothing. -/
def modifyAt {α : Type} (f : α → α) : Nat → List α → List α
  | _, [] => []
  | 0, x :: xs => f x :: xs
  | k + 1, x :: xs => x :: modifyAt f k xs

/-- The places, counting from `k`, of the elements that meet a test. -/
def placesOf {α : Type} (p : α → Bool) : Nat → List α → List Nat
  | _, [] => []
  | k, x :: xs => if p x then k :: placesOf p (k + 1) xs else placesOf p (k + 1) xs

/-! ### The slot table -/

/-- The slot table entry of slot s; a slot number beyond the table reads as EMPTY. -/
def slotAt (d : Device) (s : Nat) : SlotEntry :=
  d.ring.slots.getD s .empty

/-- Change one slot table entry. -/
def modifySlot (s : Nat) (f : SlotEntry → SlotEntry) (d : Device) : Device :=
  { d with ring := { d.ring with slots := modifyAt f s d.ring.slots } }

/-- The slot after s (00_scope.md "Geometry symbols"). -/
def slotAfter (g : Geometry) (s : Nat) : Nat := (s + 1) % g.slots

/-- The reference slot of s, the slot before it (R39). -/
def referenceSlot (g : Geometry) (s : Nat) : Nat := (s + g.slots - 1) % g.slots

/-! ### Naming an address (R18) -/

/-- Where a beat lies (R18): outside the ring; in line slack or slot slack; or in a line's samples or trailer, with the slot,
the line and the line offset. -/
inductive BeatName where
  | outside
  | slack (slot : Nat)
  | line (slot : Nat) (line : Nat) (offset : Nat)
deriving DecidableEq, Repr

/-- The name of an address under a geometry (R18). -/
def nameAddress (g : Geometry) (a : Nat) : BeatName :=
  if g.base ≤ a ∧ a < g.base + g.slots * g.slotPitch then
    let s := (a - g.base) / g.slotPitch
    let o := (a - g.base) % g.slotPitch
    if o < g.lines * g.linePitch then
      if o % g.linePitch < 2 * g.samples + 8 then .line s (o / g.linePitch) (o % g.linePitch) else .slack s
    else .slack s
  else .outside

/-- The address of line i of slot s at line offset q (R106, R127). -/
def lineAddress (g : Geometry) (s i q : Nat) : Nat :=
  g.base + s * g.slotPitch + i * g.linePitch + q

/-- Line offset q is a sample beat's (R18). -/
def isSample (g : Geometry) (q : Nat) : Bool := q < 2 * g.samples

/-- Line offset q is the trailer bytes 0 to 3 beat's (R18). -/
def isHead (g : Geometry) (q : Nat) : Bool := 2 * g.samples ≤ q && q < 2 * g.samples + 4

/-- Line offset q is the trailer bytes 4 to 7 beat's (R18). -/
def isTail (g : Geometry) (q : Nat) : Bool := 2 * g.samples + 4 ≤ q && q < 2 * g.samples + 8

/-- The field distance d: 2 in INTERLEAVED scan, 1 in PROGRESSIVE (00_scope.md "Geometry symbols"). -/
def fieldDistance (g : Geometry) : Nat :=
  match g.scan with
  | .progressive => 1
  | .interleaved => 2

/-! ### The span lists -/

/-- The spans of slot s, in ascending order of first line (R63). -/
def spansOf (d : Device) (s : Nat) : List Span :=
  d.map.spans.getD s []

/-- Put a list of spans in the place of slot s's. -/
def setSpans (s : Nat) (l : List Span) (d : Device) : Device :=
  { d with map := { d.map with spans := modifyAt (fun _ => l) s d.map.spans } }

/-- How many span records are in use (R61). -/
def usedRecords (m : DamageMap) : Nat := (m.spans.map List.length).sum

/-- The pool's free count (R64). -/
def freeRecords (m : DamageMap) : Nat := Config.poolSize - usedRecords m

/-- Line i lies inside the span. -/
def holdsLine (i : Nat) (p : Span) : Bool := p.first ≤ i && i ≤ p.last

/-- The span that holds line i of slot s, or none (R78). -/
def spanHolding (d : Device) (s i : Nat) : Option Span :=
  (spansOf d s).find? (holdsLine i)

/-- Line i of slot s is clean: it lies in no span of s (R40, R78). -/
def isClean (d : Device) (s i : Nat) : Bool :=
  (spanHolding d s i).isNone

/-- The span with a given slot and first line. -/
def findSpan (d : Device) (s first : Nat) : Option Span :=
  (spansOf d s).find? fun p => p.first == first

/-- Change the span with a given slot and first line. -/
def modifySpan (s first : Nat) (f : Span → Span) (d : Device) : Device :=
  setSpans s ((spansOf d s).map fun p => if p.first == first then f p else p) d

/-! ### The temporal reference (R39, R40) -/

/-- The temporal reference of slot s is valid: the slot before it is not EMPTY, holds the frame before, and is neither STALE
nor LOSSY (R39). So frame 0 has a valid reference once frame numbers have wrapped, though R86 and R91 give it none. DEDUCED
(notes/assumptions/27.md). -/
def referenceValid (d : Device) (s : Nat) : Bool :=
  let before := slotAt d (referenceSlot d.control.geometry s)
  before.state != .empty && before.frame == (slotAt d s).frame - 1 && !before.flags.stale && !before.flags.lossy

/-- Line i of slot s has a usable temporal source: a valid reference whose line i is clean (R40). -/
def temporalUsable (d : Device) (s i : Nat) : Bool :=
  referenceValid d s && isClean d (referenceSlot d.control.geometry s) i

/-! ### Searches in one field (R84, R130) -/

/-- The first line that meets the test among from - step, from - 2 step, …, at most `steps` of them; a candidate below 0 ends
the search (R84, R130). -/
def searchAbove (ok : Nat → Bool) (step : Nat) : Nat → Nat → Option Nat
  | 0, _ => none
  | steps + 1, start =>
    if start < step then none
    else if ok (start - step) then some (start - step) else searchAbove ok step steps (start - step)

/-- The first line that meets the test among from + step, from + 2 step, …, at most `steps` of them; a candidate at or past
`lines` ends the search (R84, R130). -/
def searchBelow (ok : Nat → Bool) (step lines : Nat) : Nat → Nat → Option Nat
  | 0, _ => none
  | steps + 1, start =>
    if lines ≤ start + step then none
    else if ok (start + step) then some (start + step) else searchBelow ok step lines steps (start + step)

/-! ### Where the drain has got to (R105) -/

/-- The delivery position has come to line i or past it. -/
def positionAtLeast (position : Option Nat) (i : Nat) : Bool :=
  match position with
  | some p => i ≤ p
  | none => false

/-- The delivery position of the DRAINING slot's record, `none` before the first decision or with no record (R124). -/
def deliveryPosition (d : Device) : Option Nat :=
  d.delivery.record.bind DrainRecord.position

/-- The drain has reached line i of slot s (R105). -/
def reached (d : Device) (s i : Nat) : Bool :=
  match (slotAt d s).state with
  | .drained => true
  | .draining => positionAtLeast (deliveryPosition d) i
  | .empty => false
  | .filling => false
  | .filled => false

/-! ### Commands on the machine -/

/-- Apply an effect to the part and leave the queue of waiting commands as it is. -/
def State.onDevice (s : State) (f : Device → Device) : State :=
  { s with toDevice := f s.toDevice }

end Sys2Proof.Machine
end

