-- ==== Sys2Proof/Machine/SpanMap.lean ====
section
/-! DEFINITION. The damage map's recording of a damaged line (R65 to R73): joining, merging, taking a record, coarsening,
extension and loss; and the hand-over that calls it (R55). -/

namespace Sys2Proof.Machine

/-- The union of two cause sets. -/
def Causes.union (a b : Causes) : Causes :=
  { check := a.check || b.check, deck := a.deck || b.deck, range := a.range || b.range, number := a.number || b.number,
    torn := a.torn || b.torn, rewrite := a.rewrite || b.rewrite, missing := a.missing || b.missing }

/-- No cause. -/
def Causes.nil : Causes :=
  { check := false, deck := false, range := false, number := false, torn := false, rewrite := false, missing := false }

/-- All engine tallies 0 (R61). -/
def Tallies.zero : Tallies := { g1 := 0, g2 := 0, g3 := 0, g4 := 0, g6 := 0 }

/-- A span's length (R61). -/
def spanLength (p : Span) : Nat := p.last + 1 - p.first

/-- A record as it is set up for a new one-line span (R61, R68). -/
def newSpan (i : Nat) (c : Causes) : Span :=
  { first := i, last := i, causes := c, absorbed := 0, state := .waiting, progress := i, tallies := .zero }

/-- The span's last line moves down to i, `gap` clean lines being taken in (R67, R70, R71). -/
def stretchDown (p : Span) (i gap : Nat) (c : Causes) : Span :=
  { p with last := i, causes := p.causes.union c, absorbed := p.absorbed + gap }

/-- The span's first line moves up to i, and r with it, `gap` clean lines being taken in (R61, R67, R70, R71). -/
def stretchUp (p : Span) (i gap : Nat) (c : Causes) : Span :=
  { p with first := i, progress := i, causes := p.causes.union c, absorbed := p.absorbed + gap }

/-- Two spans merged into the upper one, `gap` clean lines between them being taken in (R67, R70). -/
def mergeSpans (p q : Span) (gap : Nat) (c : Causes) : Span :=
  { p with last := q.last, causes := (p.causes.union q.causes).union c, absorbed := p.absorbed + q.absorbed + gap }

/-- What a recording does to a slot's list: the new list, how many lines joined an absorbed count, and whether the line was
lost (R72). -/
structure Recorded where
  spans : List Span
  absorbed : Nat
  lost : Bool
deriving DecidableEq, Repr

/-- A line inside a span: its causes join the span's set, and on a first hand-over it leaves the absorbed count (R66). -/
def recordInside (i : Nat) (c : Causes) (firstTime : Bool) (p : Span) : Span :=
  if holdsLine i p then
    { p with causes := p.causes.union c, absorbed := if firstTime then p.absorbed - 1 else p.absorbed }
  else p

/-- A line directly below or above a span joins it, or joins the two spans into one (R67). `above` and `below` are the spans
on either side of line i; none when the line touches no span. -/
def recordTouching (above below : List Span) (i : Nat) (c : Causes) : Option (List Span) :=
  match above.getLast?.filter (fun p => p.last + 1 == i), below.head?.filter (fun q => q.first == i + 1) with
  | some p, some q => some (above.dropLast ++ mergeSpans p q 0 c :: below.tail)
  | some p, none => some (above.dropLast ++ stretchDown p i 0 c :: below)
  | none, some q => some (above ++ stretchUp q i 0 c :: below.tail)
  | none, none => none

/-- The gaps between neighbouring items, each item given by its first and last line (R69). -/
def itemGaps : List (Nat × Nat) → List Nat
  | a :: b :: rest => (b.1 - a.2 - 1) :: itemGaps (b :: rest)
  | _ => []

/-- The place of the smallest number of a list, the earliest of equals (R69). -/
def leastPlace : List Nat → Nat
  | [] => 0
  | [_] => 0
  | a :: b :: rest =>
    let k := leastPlace (b :: rest)
    if a ≤ (b :: rest).getD k 0 then 0 else k + 1

/-- The items of a coarsening: the spans above line i, line i, the spans below it (R69). -/
def coarsenItems (above below : List Span) (i : Nat) : List (Nat × Nat) :=
  above.map (fun p => (p.first, p.last)) ++ (i, i) :: below.map (fun p => (p.first, p.last))

/-- The spans at places k and k + 1 merged across the gap between them (R70). -/
def mergePlace : Nat → List Span → List Span
  | 0, p :: q :: rest => mergeSpans p q (q.first - p.last - 1) .nil :: rest
  | k + 1, p :: rest => p :: mergePlace k rest
  | _, l => l

/-- Coarsening at the per-slot limit (R69, R70). -/
def recordCoarsening (above below : List Span) (i : Nat) (c : Causes) : Recorded :=
  let gaps := itemGaps (coarsenItems above below i)
  let k := leastPlace gaps
  let gap := gaps.getD k 0
  let spans :=
    if k + 1 = above.length then
      match above.getLast? with
      | some p => above.dropLast ++ stretchDown p i gap c :: below
      | none => above ++ below
    else if k = above.length then
      match below with
      | q :: rest => above ++ stretchUp q i gap c :: rest
      | [] => above ++ below
    else if k + 1 < above.length then mergePlace k above ++ newSpan i c :: below
    else above ++ newSpan i c :: mergePlace (k - above.length - 1) below
  { spans := spans, absorbed := gap, lost := false }

/-- Extension of the nearest span with the pool empty; the span above when the distances are equal; loss when the slot has no
span (R71, R72). -/
def recordExtension (above below : List Span) (i : Nat) (c : Causes) : Recorded :=
  match above.getLast?, below with
  | some p, [] =>
    { spans := above.dropLast ++ [stretchDown p i (i - p.last - 1) c], absorbed := i - p.last - 1, lost := false }
  | some p, q :: rest =>
    if i - p.last - 1 ≤ q.first - i - 1 then
      { spans := above.dropLast ++ stretchDown p i (i - p.last - 1) c :: q :: rest, absorbed := i - p.last - 1,
        lost := false }
    else
      { spans := above ++ stretchUp q i (q.first - i - 1) c :: rest, absorbed := q.first - i - 1, lost := false }
  | none, q :: rest =>
    { spans := stretchUp q i (q.first - i - 1) c :: rest, absorbed := q.first - i - 1, lost := false }
  | none, [] => { spans := [], absorbed := 0, lost := true }

/-- Recording line i in a slot's list, the cases in the order of R65. `hasFree` says whether the pool has a free record. -/
def recordLine (spans : List Span) (hasFree : Bool) (i : Nat) (c : Causes) (firstTime : Bool) : Recorded :=
  if spans.any (holdsLine i) then
    { spans := spans.map (recordInside i c firstTime), absorbed := 0, lost := false }
  else
    let above := spans.filter fun p => p.last < i
    let below := spans.filter fun p => i < p.first
    match recordTouching above below i c with
    | some l => { spans := l, absorbed := 0, lost := false }
    | none =>
      if Config.spanLimit ≤ spans.length then recordCoarsening above below i c
      else if hasFree then { spans := above ++ newSpan i c :: below, absorbed := 0, lost := false }
      else recordExtension above below i c

/-- A damaged line that the map could not record: the slot becomes LOSSY, a first hand-over is counted lost, and DAMAGE_LOST
is raised (R72, R73). -/
def loseLine (s : Nat) (firstTime : Bool) (d : Device) : Device :=
  let d := modifySlot s (fun e => { e with flags := { e.flags with lossy := true } }) d
  raise .damageLost (if firstTime then bump .linesLost d else d)

/-- A hand-over of line i of slot s to the damage map, and what the map does with it (R55, R65 to R73). `firstTime` is false
for the REWRITE hand-over of a line that was FAILED. -/
def handOver (s i : Nat) (c : Causes) (firstTime : Bool) (d : Device) : Device :=
  let d := if firstTime then bump .linesDamaged d else d
  let r := recordLine (spansOf d s) (0 < freeRecords d.map) i c firstTime
  let d := bumpBy .linesAbsorbed r.absorbed (setSpans s r.spans d)
  if r.lost then loseLine s firstTime d else d

end Sys2Proof.Machine
end

