-- ==== Sys2Proof/Machine/Reporting.lean ====
section
/-! DEFINITION. The report unit (08): what a hand-over brings (R145), the grade counts and line totals (R146), the score and
the quality index (R148, R149), run and worst quality (R151 to R153), and the report queue (R154, R155), in the order of
R150. -/

namespace Sys2Proof.Machine

/-- What a hand-over brings to the report unit (R145): the frame, its slot, its end kind, whether its drain started, and the
drain record's figures. -/
structure Ending where
  frame : BitVec 32
  slot : Nat
  endKind : EndKind
  drainStarted : Bool
  holdCount : Nat
  holdTime : Nat
  allowanceLeft : Nat
  signature : BitVec 32
  unverified : Nat
  redirected : Nat
  damaged : Nat
deriving DecidableEq, Repr

/-- The hand-over of a frame whose drain had not started: no drain record, so no hold figures and the signature of no bytes
(R147). -/
def undrainedEnding (frame : BitVec 32) (slot : Nat) : Ending :=
  { frame := frame, slot := slot, endKind := .overwritten, drainStarted := false, holdCount := 0, holdTime := 0,
    allowanceLeft := 0, signature := crc32Start, unverified := 0, redirected := 0, damaged := 0 }

/-- The hand-over of a drain record (R145, R147). -/
def recordEnding (r : DrainRecord) : Ending :=
  { frame := r.frame, slot := r.slot, endKind := r.endKind, drainStarted := true, holdCount := r.holdCount,
    holdTime := r.holdTime, allowanceLeft := r.allowanceLeft, signature := r.signature, unverified := r.unverified,
    redirected := r.redirectedTally, damaged := r.damagedTally }

/-- The sum of a number over a list of spans. -/
def sumOver (f : Span → Nat) (l : List Span) : Nat := (l.map f).sum

/-- The sum of a span's five engine tallies (R80, R146). -/
def talliesSum (t : Tallies) : Nat := t.g1 + t.g2 + t.g3 + t.g4 + t.g6

/-- The grade counts of a frame with these spans: the engine tallies, the redirected lines as grade 5, the lines delivered
damaged and the remainder as grade 6 (R146). DEDUCED (notes/assumptions/21.md). -/
def gradeCounts (l : List Span) (redirected damaged : Nat) : Grades :=
  let tallied := sumOver (fun p => talliesSum p.tallies) l
  { g1 := sumOver (fun p => p.tallies.g1) l, g2 := sumOver (fun p => p.tallies.g2) l,
    g3 := sumOver (fun p => p.tallies.g3) l, g4 := sumOver (fun p => p.tallies.g4) l, g5 := redirected,
    g6 := sumOver (fun p => p.tallies.g6) l + damaged
          + (sumOver spanLength l - (tallied + redirected + damaged)) }

/-- The impairment score I: the grade counts weighted by the grade weights (R148). -/
def impairmentScore (w c : Grades) : Nat :=
  w.g1 * c.g1 + w.g2 * c.g2 + w.g3 * c.g3 + w.g4 * c.g4 + w.g5 * c.g5 + w.g6 * c.g6

/-- The score scaled to the frame's height: In = min(65535, (I × 1024) div N) (R148). -/
def impairment (w c : Grades) (lines : Nat) : Nat :=
  min 65535 (impairmentScore w c * 1024 / lines)

/-- The seven thresholds in order. -/
def thresholdList (t : Thresholds) : List Nat := [t.t1, t.t2, t.t3, t.t4, t.t5, t.t6, t.t7]

/-- The effective thresholds: each is the largest of the thresholds up to it (R149). -/
def effectiveFrom : Nat → List Nat → List Nat
  | _, [] => []
  | m, t :: rest => max m t :: effectiveFrom (max m t) rest

/-- How many effective thresholds an impairment meets (R149). -/
def thresholdsMet (t : Thresholds) (imp : Nat) : Nat :=
  ((effectiveFrom 0 (thresholdList t)).filter fun e => e ≤ imp).length

/-- The quality index Q: 0 for an OVERWRITTEN report, else 7 less the thresholds met (R149). -/
def qualityIndex (t : Thresholds) (imp : Nat) (k : EndKind) : Nat :=
  if k = .overwritten then 0 else 7 - thresholdsMet t imp

/-- The frame report of a hand-over (R146 to R149), its gap field still 0. -/
def buildReport (d : Device) (e : Ending) : FrameReport :=
  let l := spansOf d e.slot
  let counts := gradeCounts l e.redirected e.damaged
  let imp := impairment d.control.repair.weights counts d.control.geometry.lines
  { frame := e.frame, slot := e.slot, endKind := e.endKind, drainStarted := e.drainStarted,
    flags := (slotAt d e.slot).flags, grades := counts, damaged := sumOver (fun p => spanLength p - p.absorbed) l,
    absorbed := sumOver (fun p => p.absorbed) l, impairment := imp,
    quality := qualityIndex d.control.repair.thresholds imp e.endKind, holdCount := min e.holdCount 255,
    holdTime := e.holdTime, allowanceLeft := e.allowanceLeft, signature := e.signature,
    unverified := min e.unverified 255, gap := 0 }

/-- Step 2 of R150: a COMPLETE report counts in frames drained, an OVERWRITTEN one in frames overwritten. -/
def countFrame (k : EndKind) (d : Device) : Device :=
  match k with
  | .complete => bump .framesDrained d
  | .overwritten => bump .framesOverwritten d
  | .cutOff => d
  | .stillOpen => d

/-- RQ and the recovery count after a report of quality q, with R the recovery frames setting (R151). -/
def qualityAfter (recoveryFrames rq count q : Nat) : Nat × Nat :=
  if q < rq then (q, 0)
  else if q = rq then (rq, 0)
  else if count + 1 < recoveryFrames then (rq, count + 1)
  else (rq + 1, 0)

/-- Steps 3 and 4 of R150: last Q, WQ (R153), RQ and the recovery count (R151), and QUALITY_LOW when RQ falls below the alarm
level (R152). -/
def foldQuality (q : Nat) (d : Device) : Device :=
  let before := d.reports.runQuality
  let after := qualityAfter d.control.repair.recovery before d.reports.recovery q
  let d := { d with reports := { d.reports with lastQuality := q, worstQuality := min d.reports.worstQuality q,
                                                runQuality := after.1, recovery := after.2 } }
  if after.1 < before ∧ after.1 < d.control.repair.alarm then raise .qualityLow d else d

/-- Step 5 of R150: the record is stored with the pending gap count, or dropped from a full queue (R154, R155). -/
def offerReport (r : FrameReport) (d : Device) : Device :=
  if d.reports.queue.length < Config.queueDepth then
    let stored := { d with reports := { d.reports with queue := d.reports.queue ++ [{ r with gap := d.reports.gap }],
                                                       gap := 0 } }
    if d.reports.queue.isEmpty then raise .reportReady stored else stored
  else raise .reportLost { d with reports := { d.reports with gap := min (d.reports.gap + 1) 255 } }

/-- A hand-over built into a report, as one event (R150). -/
def report (e : Ending) (d : Device) : Device :=
  let r := buildReport d e
  offerReport r (foldQuality r.quality (countFrame e.endKind d))

/-! ### The record as the link sees it (section 10.4) -/

/-- The code of an end kind (section 10.4). -/
def endKindCode : EndKind → BitVec 2
  | .complete => 0
  | .overwritten => 1
  | .cutOff => 2
  | .stillOpen => 3

/-- The 36 bytes of a frame report (section 10.4). -/
def reportBytes (r : FrameReport) : List Byte :=
  [(0 : BitVec 1) ++ BitVec.ofNat 3 r.quality ++ endKindCode r.endKind ++ BitVec.ofBool r.drainStarted ++ (1 : BitVec 1),
    flagsByte r.flags, byteOf r.slot, byteOf r.gap, byteOf r.holdCount, byteOf r.unverified]
    ++ field32 r.frame ++ nat16 r.impairment ++ nat16 r.grades.g1 ++ nat16 r.grades.g2 ++ nat16 r.grades.g3
    ++ nat16 r.grades.g4 ++ nat16 r.grades.g5 ++ nat16 r.grades.g6 ++ nat16 r.damaged ++ nat16 r.absorbed
    ++ nat16 r.holdTime ++ nat16 r.allowanceLeft ++ field32 r.signature

/-- The sixteen counters in the order of R157. -/
def counterList (n : Counters) : List Nat :=
  [n.framesFilled, n.framesDrained, n.framesOverwritten, n.framesStale, n.linesChecked, n.linesDamaged,
    n.linesAbsorbed, n.linesLost, n.chromaLines, n.linesRepaired, n.linesRedirected, n.linesPassedDamaged,
    n.holdsTaken, n.holdExpiries, n.trailersUnverified, n.lockLosses]

end Sys2Proof.Machine
end

