-- ==== Sys2Proof/Machine/Deliver.lean ====
section
/-! DEFINITION. The delivery unit (07): the decision of a line's context (R128 to R130), holds and their release (R131 to R135),
the data side with trailer rewriting and signature (R136 to R140), and the handing over of drain records (R141, R142). -/

namespace Sys2Proof.Machine

/-! ### The line table and the delivery position (R125) -/

/-- A line's entry in a drain record (R125). -/
def entryOf (r : DrainRecord) (i : Nat) : LineEntry := r.lines.getD i .unreached

/-- An entry that waits for a decision (R127). -/
def undecided : LineEntry → Bool
  | .unreached => true
  | .passedHandled => true
  | .passedUnhandled => true
  | .held => false
  | .clean => false
  | .handled => false
  | .redirected _ _ => false
  | .damaged => false
  | .asStored => false

/-- Line i lies in a span of slot s with i less than the span's r: the engine is past it (R125, R128). -/
def enginePast (d : Device) (s i : Nat) : Bool :=
  match spanHolding d s i with
  | some p => i < p.progress
  | none => false

/-- What a line becomes when the delivery position passes over it (R125). -/
def passedOver (d : Device) (s i : Nat) : LineEntry :=
  if enginePast d s i then .passedHandled else .passedUnhandled

/-- A record with line i's entry fixed: the position moves down to i if it stands above it, and the lines it passes that are
still UNREACHED become PASSED OVER (R125). -/
def fixEntry (d : Device) (i : Nat) (e : LineEntry) (r : DrainRecord) : DrainRecord :=
  { r with
    lines := mapFrom (fun k x =>
      if k = i then e
      else if k < i ∧ positionAtLeast r.position k = false ∧ x = .unreached then passedOver d r.slot k else x) 0 r.lines
    position := if positionAtLeast r.position i then r.position else some i }

/-- Change the DRAINING slot's record. -/
def onRecord (f : DrainRecord → DrainRecord) (d : Device) : Device :=
  { d with delivery := { d.delivery with record := d.delivery.record.map f } }

/-! ### Decisions (R128 to R130) -/

/-- The slot is STALE or LOSSY (R128 row 1, R129). -/
def spoiled (e : SlotEntry) : Bool := e.flags.stale || e.flags.lossy

/-- The slot carries OVERTAKE and line i is at or past its unchecked-from line (R36, R128 row 1). -/
def unchecked (e : SlotEntry) (i : Nat) : Bool := e.flags.overtake && e.uncheckedFrom ≤ i

/-- A line that may serve as spatial source: clean, and checked (R130). -/
def spatialCandidate (d : Device) (s i : Nat) : Bool :=
  isClean d s i && !unchecked (slotAt d s) i

/-- The spatial source of line i: the nearest candidate above within reach, else below (R130). -/
def spatialSource (d : Device) (r : DrainRecord) (i : Nat) : Option Nat :=
  let g := d.control.geometry
  let step := fieldDistance g
  match searchAbove (spatialCandidate d r.slot) step r.reach i with
  | some j => some j
  | none => searchBelow (spatialCandidate d r.slot) step g.lines r.reach i

/-- Rows 5 to 7 of R128. -/
def redirectOrDamage (d : Device) (r : DrainRecord) (i : Nat) : LineEntry :=
  if temporalUsable d r.slot i then .redirected (referenceSlot d.control.geometry r.slot) i
  else
    match spatialSource d r i with
    | some j => .redirected r.slot j
    | none => .damaged

/-- Row 4 of R128: the entry is UNREACHED, the line is line r of the ACTIVE span, and the allowance left can pay a full budget
above 0. -/
def holdOffered (r : DrainRecord) (i : Nat) (p : Span) : Bool :=
  entryOf r i == .unreached && p.state == .active && p.progress == i && 0 < r.holdBudget
    && r.holdBudget ≤ r.allowanceLeft

/-- The context that a decision gives line i of the record's slot: the first row of R128 whose condition holds. A line that row 1
makes HANDLED is so even at or past the unchecked-from line of R129. DEDUCED (notes/assumptions/10.md). -/
def decideContext (d : Device) (r : DrainRecord) (i : Nat) : LineEntry :=
  let e := slotAt d r.slot
  let before := entryOf r i != .passedUnhandled
  match spanHolding d r.slot i with
  | none => if unchecked e i then .asStored else .clean
  | some p =>
    if i < p.progress && before then .handled
    else if spoiled e || unchecked e i then .asStored
    else if holdOffered r i p then .held
    else redirectOrDamage d r i

/-- What a decision counts in the run counters (R128). -/
def countDecision (s i : Nat) (e : LineEntry) (d : Device) : Device :=
  match e with
  | .redirected _ _ => bump .linesRedirected d
  | .damaged => bump .linesPassedDamaged d
  | .asStored => if isClean d s i then d else bump .linesPassedDamaged d
  | .unreached => d
  | .passedHandled => d
  | .passedUnhandled => d
  | .held => d
  | .clean => d
  | .handled => d

/-- Fix a decided context in the DRAINING slot's record and count it (R125, R128). -/
def settleLine (s i : Nat) (e : LineEntry) (d : Device) : Device :=
  countDecision s i e (onRecord (fixEntry d i e) d)

/-- A hold is taken for line i (R132); the delivery position stays. -/
def takeHold (i : Nat) (d : Device) : Device :=
  let d := onRecord (fun r => { r with lines := modifyAt (fun _ => .held) i r.lines, holdCount := r.holdCount + 1 }) d
  bump .holdsTaken { d with delivery := { d.delivery with held := some { line := i, ticks := 0 } } }

/-- The decision for an undecided line i under record r (R127, R128, R132). -/
def decideLine (r : DrainRecord) (i : Nat) (d : Device) : Device :=
  match decideContext d r i with
  | .held => takeHold i d
  | e => settleLine r.slot i e d

/-- The treatment of a beat: read at a memory-side address, or hold (section 1.4). -/
inductive Treatment where
  | readAt (address : Nat)
  | hold
deriving DecidableEq, Repr

/-- The treatment that a line's entry gives its sample beat at offset q (R127); every beat of a STALE or LOSSY slot takes Pass
(R129). -/
def entryTreatment (d : Device) (r : DrainRecord) (i q : Nat) : Treatment :=
  let g := d.control.geometry
  let own := Treatment.readAt (lineAddress g r.slot i q)
  if spoiled (slotAt d r.slot) then own
  else
    match entryOf r i with
    | .redirected s j => .readAt (lineAddress g s j q)
    | .held => .hold
    | .unreached => own
    | .passedHandled => own
    | .passedUnhandled => own
    | .clean => own
    | .handled => own
    | .damaged => own
    | .asStored => own

/-- The answer to the port about a sample beat of line i at offset q of the DRAINING slot: the context is decided if it is not
yet, and the answer follows the entry (R127). -/
def askSample (i q : Nat) (d : Device) : Device × Option Treatment :=
  match d.delivery.record with
  | none => (d, none)
  | some r =>
    let d := if undecided (entryOf r i) then decideLine r i d else d
    (d, d.delivery.record.map fun r => entryTreatment d r i q)

/-! ### Holds (R131 to R135) -/

/-- Charge a hold to the drain record (R135). -/
def chargeRecord (c : Nat) (r : DrainRecord) : DrainRecord :=
  { r with holdTime := r.holdTime + c, allowanceLeft := r.allowanceLeft - c }

/-- The charge takes the allowance left from at least the budget to below it (R135). -/
def chargeSpends (c : Nat) (r : DrainRecord) : Bool :=
  r.holdBudget ≤ r.allowanceLeft && r.allowanceLeft - c < r.holdBudget

/-- Charge a hold and raise ALLOWANCE_SPENT when it takes the allowance below the budget (R135). -/
def chargeHold (c : Nat) (d : Device) : Device :=
  match d.delivery.record with
  | none => d
  | some r =>
    let d := onRecord (chargeRecord c) d
    if chargeSpends c r then raise .allowanceSpent d else d

/-- Empty the held-read context. -/
def dropHold (d : Device) : Device :=
  { d with delivery := { d.delivery with held := none } }

/-- The port is released from a hold: from HELD it claims the memory side again; a hold asked for but not yet reached is
dropped (R11). -/
def releaseTransfer (t : BurnerTransfer) : BurnerTransfer :=
  { t with holdAsked := false,
           mode := match t.mode with
             | .held => .waiting
             | .waiting => .waiting
             | .forwarding => .forwarding }

/-- Release the port from a hold (R11). -/
def releasePort (d : Device) : Device :=
  { d with port := { d.port with transfer := d.port.transfer.map releaseTransfer } }

/-- The engine's write-back of line i of slot s has completed: if that line is held, the hold is released (R133). -/
def releaseByWriteBack (s i : Nat) (d : Device) : Device :=
  match d.delivery.held, d.delivery.record with
  | some h, some r =>
    if h.line = i ∧ r.slot = s then releasePort (dropHold (settleLine s i .handled (chargeHold h.ticks d))) else d
  | _, _ => d

/-- The hold budget has run out: the hold expires and the line's context is decided by rows 5 to 7 of R128 (R134). The port's
claim for the remainder is left to the arbiter. -/
def expireHold (d : Device) : Device :=
  match d.delivery.held, d.delivery.record with
  | some h, some r =>
    let e := redirectOrDamage d r h.line
    releasePort (dropHold (settleLine r.slot h.line e (bump .holdExpiries (chargeHold r.holdBudget d))))
  | _, _ => d

/-- One tick of the 1 µs timebase with no command waiting: a waiting hold's tick count rises by one, and a count that reaches
the budget expires the hold (R131, R134). DESIGN CHOICE (notes/assumptions/5.md). -/
def tickHold (d : Device) : Device :=
  match d.delivery.held, d.delivery.record with
  | some h, some r =>
    if h.ticks + 1 < r.holdBudget then
      { d with delivery := { d.delivery with held := some { h with ticks := h.ticks + 1 } } }
    else expireHold d
  | _, _ => d

/-! ### Handing over (R141, R142) -/

/-- A REDIRECTED entry. -/
def isRedirected : LineEntry → Bool
  | .redirected _ _ => true
  | _ => false

/-- An entry that counts in the damaged-delivered tally: DAMAGED, AS STORED or CLEAN (R141). -/
def isDeliveredDamaged : LineEntry → Bool
  | .damaged => true
  | .asStored => true
  | .clean => true
  | _ => false

/-- How many lines of these spans have an entry of a kind (R141). -/
def tallyLines (l : List Span) (kind : LineEntry → Bool) (r : DrainRecord) : Nat :=
  ((placesOf kind 0 r.lines).filter fun k => l.any (holdsLine k)).length

/-- The record with its two delivery tallies filled in from the spans of its slot as they stand (R141). -/
def fillTallies (d : Device) (r : DrainRecord) : DrainRecord :=
  { r with redirectedTally := tallyLines (spansOf d r.slot) isRedirected r,
           damagedTally := tallyLines (spansOf d r.slot) isDeliveredDamaged r }

/-- Hand a drain record to the report unit (R141, R145). -/
def handOverRecord (r : DrainRecord) (d : Device) : Device :=
  report (recordEnding (fillTallies d r)) d

/-- A closing record is handed over at once as it stands (R141, R143). -/
def handOverClosing (d : Device) : Device :=
  match d.delivery.closing with
  | none => d
  | some r =>
    let d := handOverRecord r d
    { d with delivery := { d.delivery with closing := none } }

/-- The DRAINING slot's record is handed over at once with an end kind, OVERWRITTEN or PARTIAL (R142, R143). -/
def handOverDraining (k : EndKind) (d : Device) : Device :=
  match d.delivery.record with
  | none => d
  | some r =>
    let d := handOverRecord { r with endKind := k } d
    { d with delivery := { d.delivery with record := none } }

/-- A drain end at the delivery unit: the record becomes the closing record, and is handed over at once when none of its
beats is still on its way (R37, R126, R141). -/
def closeRecord (d : Device) : Device :=
  match d.delivery.record with
  | none => d
  | some r =>
    let d := handOverClosing d
    let d := { d with delivery := { d.delivery with record := none, closing := some { r with endKind := .complete } } }
    if r.inFlight = 0 then handOverClosing d else d

/-- A drain start at the delivery unit: a new record for slot s with the active settings as they stand (R124). -/
def openRecord (s : Nat) (d : Device) : Device :=
  let a := d.control.repair
  let r : DrainRecord :=
    { frame := (slotAt d s).frame, slot := s, endKind := .stillOpen, holdBudget := a.holdBudget,
      holdAllowance := a.holdAllowance, allowanceLeft := a.holdAllowance, stationTag := a.stationTag,
      reach := a.reach, position := none, lines := List.replicate d.control.geometry.lines .unreached,
      holdCount := 0, holdTime := 0, signature := crc32Start, unverified := 0, redirectedTally := 0,
      damagedTally := 0, inFlight := 0 }
  { d with delivery := { d.delivery with record := some r } }

/-! ### The data side (R136 to R140) -/

/-- What a beat of a drain becomes on its way to the burner, and what it leaves in the data-side tracking. -/
structure Passing where
  beat : Beat
  context : Option LineContext
  countedHead : Option Nat
  unverified : Bool
deriving DecidableEq, Repr

/-- The context after a sample beat of line i at offset q (R136). A BROKEN context has its head mark clear and its CRC at the initial
value, on which R136 is silent. DESIGN CHOICE (notes/assumptions/28.md). -/
def sampleContext (c : Option LineContext) (i q : Nat) (bytes : List Byte) : LineContext :=
  let broken : LineContext := { line := i, next := none, crc := crc16Start, headMark := false }
  if q = 0 then { line := i, next := some 4, crc := crc16 crc16Start bytes, headMark := false }
  else
    match c with
    | some c => if c.line = i ∧ c.next = some q then { c with next := some (q + 4), crc := crc16 c.crc bytes } else broken
    | none => broken

/-- A line is rewrite-eligible at the arrival of its trailer beat (R137). -/
def rewriteEligible (e : SlotEntry) (r : DrainRecord) (i : Nat) : Bool :=
  !spoiled e && !unchecked e i &&
    match entryOf r i with
    | .clean => true
    | .handled => true
    | .redirected _ _ => true
    | .damaged => true
    | .asStored => false
    | .unreached => false
    | .passedHandled => false
    | .passedUnhandled => false
    | .held => false

/-- The grade of a delivered mark byte (R137): from the stored mark byte for a HANDLED line. -/
def deliveredGrade (e : LineEntry) (stored : Byte) : Nat :=
  match e with
  | .handled => stored.toNat % 16
  | .redirected _ _ => 5
  | .damaged => 6
  | .clean => 0
  | .asStored => 0
  | .unreached => 0
  | .passedHandled => 0
  | .passedUnhandled => 0
  | .held => 0

/-- Trailer bytes 0 to 3 as rewritten: line number, stored deck flags, mark (R137). -/
def rewrittenHead (order : ByteOrder) (r : DrainRecord) (i : Nat) (b : Beat) : Beat :=
  { lane0 := lowerByte order i, lane1 := upperByte order i, lane2 := b.lane2,
    lane3 := byteOf (r.stationTag * 16 + deliveredGrade (entryOf r i) b.lane3) }

/-- The line's samples were delivered as one ascending run (R136); it stays so when trailer bytes 0 to 3 are read again. DEDUCED
(notes/assumptions/12.md). -/
def runComplete (g : Geometry) (c : LineContext) (i : Nat) : Bool :=
  c.line == i && c.next == some (2 * g.samples)

/-- Trailer bytes 0 to 3 of line i pass through (R137, R139). -/
def passHead (g : Geometry) (e : SlotEntry) (r : DrainRecord) (c : Option LineContext) (i : Nat) (b : Beat) : Passing :=
  let asStored (counted : Bool) : Passing :=
    { beat := b, context := none, countedHead := if counted then some i else none, unverified := counted }
  if rewriteEligible e r i then
    match c with
    | some c =>
      if runComplete g c i then
        let out := rewrittenHead g.order r i b
        { beat := out, context := some { c with crc := crc16 c.crc (beatBytes out), headMark := true },
          countedHead := none, unverified := false }
      else asStored true
    | none => asStored true
  else asStored false

/-- Trailer bytes 4 to 7 of line i pass through (R138, R139), rewritten only for an eligible line; the beat before it is the last
beat of a drain that passed. DEDUCED (notes/assumptions/11.md, 13.md). -/
def passTail (g : Geometry) (e : SlotEntry) (r : DrainRecord) (c : Option LineContext) (counted : Option Nat) (i : Nat)
    (b : Beat) : Passing :=
  let asStored (u : Bool) : Passing := { beat := b, context := none, countedHead := none, unverified := u }
  if rewriteEligible e r i then
    match c with
    | some c =>
      if c.line = i ∧ c.headMark then
        { beat := { b with lane0 := lowerByte g.order c.crc.toNat, lane1 := upperByte g.order c.crc.toNat },
          context := none, countedHead := none, unverified := false }
      else asStored (counted != some i)
    | none => asStored (counted != some i)
  else asStored false

/-- A beat attributed to drain record r passes through the delivery unit (R136 to R139). -/
def passBeat (d : Device) (r : DrainRecord) (t : BeatTag) (b : Beat) : Passing :=
  let g := d.control.geometry
  let e := slotAt d r.slot
  if isSample g t.offset then
    { beat := b, context := some (sampleContext d.delivery.context t.line t.offset (beatBytes b)), countedHead := none,
      unverified := false }
  else if isHead g t.offset then passHead g e r d.delivery.context t.line b
  else passTail g e r d.delivery.context d.delivery.countedHead t.line b

/-- The record after a beat of it has passed: signed, counted if unverified, one beat fewer on its way (R126, R139, R140). -/
def signBeat (p : Passing) (r : DrainRecord) : DrainRecord :=
  { r with signature := crc32 r.signature (beatBytes p.beat),
           unverified := if p.unverified then min (r.unverified + 1) 65535 else r.unverified,
           inFlight := r.inFlight - 1 }

/-- The data-side tracking after a beat, and the run counter of R139. -/
def trackBeat (p : Passing) (d : Device) : Device :=
  let d := { d with delivery := { d.delivery with context := p.context, countedHead := p.countedHead } }
  if p.unverified then bump .trailersUnverified d else d

/-- A beat with tag t returns: it belongs to the closing record while there is one, else to the DRAINING slot's record (R126).
The closing record is handed over with its last beat (R141). A beat with no record passes as it is (R16, R17). -/
def deliverBeat (t : BeatTag) (b : Beat) (d : Device) : Device × Beat :=
  match d.delivery.closing with
  | some r =>
    let p := passBeat d r t b
    let r' := signBeat p r
    let d := trackBeat p { d with delivery := { d.delivery with closing := some r' } }
    (if r'.inFlight = 0 then handOverClosing d else d, p.beat)
  | none =>
    match d.delivery.record with
    | some r =>
      let p := passBeat d r t b
      (trackBeat p { d with delivery := { d.delivery with record := some (signBeat p r) } }, p.beat)
    | none => (d, b)

/-- A beat with no tag passes through unchanged; any other is the delivery unit's (R12). -/
def passThrough (t : Option BeatTag) (b : Beat) (d : Device) : Device × Beat :=
  match t with
  | none => (d, b)
  | some t => deliverBeat t b d

end Sys2Proof.Machine
end

