-- ==== Sys2Proof/Machine/Conceal.lean ====
section
/-! DEFINITION. Concealment arithmetic (05): sample values, field runs and boundaries, the motion figure, the weight, spatial and
temporal values, their combination and grade, the clamp, and the repaired line as bytes (R82 to R97). -/

namespace Sys2Proof.Machine

/-- A sample value: the stored word limited to 1023 (R82). -/
def sampleValue (word : Nat) : Nat := min word Config.sampleMax

/-- The sample values of a line from its stored bytes (R82). -/
def sampleValues (order : ByteOrder) (bytes : List Byte) : List Nat :=
  (packetWords order bytes).map sampleValue

/-- The extents of the field runs of a span [a..b], in ascending order of first run line (R83, R107). -/
def fieldRuns (step a b : Nat) : List (Nat × Nat) :=
  if step = 1 ∨ a = b then [(a, b)]
  else [(a, b - (b - a) % 2), (a + 1, b - (b - a + 1) % 2)]

/-- The spatial kind that the boundaries give (R85). -/
def spatialKind (above below : Option Nat) : SpatialKind :=
  match above, below with
  | some _, some _ => .interpolation
  | some _, none => .edgeCopy
  | none, some _ => .edgeCopy
  | none, none => .none

/-- The field record of one run of slot s as it is made at the take, its boundaries searched among the clean lines of the slot
(R84, R85, R107). Until the fetches bring the values and the gather's end forms M and w (R108, R109), for which R107 gives no value, the
values are empty, M is undefined and w is 0. DESIGN CHOICE (notes/assumptions/31.md). -/
def makeField (d : Device) (s reach : Nat) (run : Nat × Nat) : FieldRecord :=
  let g := d.control.geometry
  let step := fieldDistance g
  let above := searchAbove (isClean d s) step reach run.1
  let below := searchBelow (isClean d s) step g.lines reach run.2
  { field := run.1 % step, first := run.1, last := run.2, above := above, below := below, aboveValues := [],
    belowValues := [], pairs := 0, diff := 0, motion := none, weight := 0, kind := spatialKind above below }

/-- The absolute difference of two values (R86). -/
def absDiff (a b : Nat) : Nat := (a - b) + (b - a)

/-- The sum of the absolute differences of two lines, column by column (R86). -/
def lineDifference (a b : List Nat) : Nat := (List.zipWith absDiff a b).sum

/-- The motion figure M: D div n with n = L × pairs, undefined when no pair entered (R86). -/
def motionFigure (diff pairs samples : Nat) : Option Nat :=
  if pairs = 0 then none else some (diff / (samples * pairs))

/-- The weight w, the first row of R88 that applies. -/
def weightOf (tStill tMove wDefault : Nat) : Option Nat → Nat
  | none => wDefault
  | some m =>
    if m ≤ tStill then 16
    else if tMove ≤ tStill then 0
    else if tMove ≤ m then 0
    else 16 * (tMove - m) / (tMove - tStill)

/-- A field record with its motion figure and weight formed at the end of the gather (R109). -/
def finishField (samples tStill tMove wDefault : Nat) (f : FieldRecord) : FieldRecord :=
  let m := motionFigure f.diff f.pairs samples
  { f with motion := m, weight := weightOf tStill tMove wDefault m }

/-- The interpolated value of one column: position p of k + 1 between the boundary values, rounded half up (R89). -/
def interpolate (k p a b : Nat) : Nat :=
  (a * (k + 1 - p) + b * p + (k + 1) / 2) / (k + 1)

/-- The spatial value of line i, column by column: interpolation (R89), edge copy (R90), or absent. -/
def spatialValues (step i : Nat) (f : FieldRecord) : Option (List Nat) :=
  match f.above, f.below with
  | some a, some b => some (List.zipWith (interpolate ((b - a) / step - 1) ((i - a) / step)) f.aboveValues f.belowValues)
  | some _, none => some f.aboveValues
  | none, some _ => some f.belowValues
  | none, none => none

/-- The blend of a temporal and a spatial value at weight w, rounded half up (R92). -/
def blend (w t s : Nat) : Nat := (w * t + (16 - w) * s + 8) / 16

/-- The grade of a line whose output is its spatial value alone: 3 for INTERPOLATION, 4 for EDGE COPY (R92). -/
def spatialGrade : SpatialKind → Nat
  | .interpolation => 3
  | .edgeCopy => 4
  | .none => 6

/-- The grade of a blend at weight w (R92). -/
def blendGrade (w : Nat) (k : SpatialKind) : Nat :=
  if w = 16 then 1 else if w = 0 then spatialGrade k else 2

/-- The output values and the grade of a line from its spatial and temporal values, the weight and the spatial kind; no output
with grade 6 (R92, R93). -/
def combine (s t : Option (List Nat)) (w : Nat) (k : SpatialKind) : Option (List Nat) × Nat :=
  match s, t with
  | some s, some t => (some (List.zipWith (blend w) t s), blendGrade w k)
  | some s, none => (some s, spatialGrade k)
  | none, some t => (some t, 1)
  | none, none => (none, 6)

/-- An output value limited to the legal range (R94). -/
def clampSample (g : Geometry) (v : Nat) : Nat := max g.lo (min v g.hi)

/-- Trailer bytes 0 to 3 of a line the engine writes: line number, deck flags 0x00, mark byte (R96, R97). -/
def engineHead (order : ByteOrder) (i tag grade : Nat) : List Byte :=
  [lowerByte order i, upperByte order i, 0, byteOf (tag * 16 + grade)]

/-- Trailer bytes 4 to 7 of a line the engine writes: the check word over the bytes before, and the fill bytes not enabled
(R96, R106). -/
def engineTail (order : ByteOrder) (covered : List Byte) : List (Option Byte) :=
  let c := (crc16 crc16Start covered).toNat
  [some (lowerByte order c), some (upperByte order c), none, none]

/-- The write-back run of a line of grade 1 to 4: samples, trailer bytes 0 to 3, check word (R96, R106). -/
def repairedLanes (g : Geometry) (outputs : List Nat) (head : List Byte) : List (Option Byte) :=
  let body := packetBytes g.order (outputs.map (clampSample g)) ++ head
  body.map some ++ engineTail g.order body

/-- The write-back run of a line of grade 6: trailer bytes 0 to 3, and the check word over the stored samples and them (R97,
R106). -/
def damagedLanes (g : Geometry) (stored head : List Byte) : List (Option Byte) :=
  head.map some ++ engineTail g.order (stored ++ head)

end Sys2Proof.Machine
end

