-- ==== Sys2Proof/Machine/Repair.lean ====
section
/-! DEFINITION. The repair engine (06): the repair order, taking a span, the gather, the per-line steps, the write-back and its
completion, and the abort of a job (R102 to R119). Every definition leaves the engine with its next claim placed or IDLE; the
arbiter puts the claimed transfer on the memory side. -/

namespace Sys2Proof.Machine

/-! ### The job in hand -/

/-- Put a job in the engine. -/
def setJob (j : Job) (d : Device) : Device :=
  { d with engine := { d.engine with job := some j } }

/-- The engine's claim for its next transfer goes to the arbiter (R106). -/
def claimBus (d : Device) : Device :=
  { d with engine := { d.engine with claiming := true } }

/-- r of the ACTIVE span; past its last line if the map no longer has it. -/
def progressOf (d : Device) (j : Job) : Nat :=
  match findSpan d j.slot j.first with
  | some p => p.progress
  | none => j.last + 1

/-- r moves past its line (R110, R115). -/
def moveProgress (j : Job) (d : Device) : Device :=
  modifySpan j.slot j.first (fun p => { p with progress := p.progress + 1 }) d

/-- The ACTIVE span becomes DONE and the engine IDLE, its job data discarded (R101, R115). -/
def finishSpan (j : Job) (d : Device) : Device :=
  let d := modifySpan j.slot j.first (fun p => { p with state := .done }) d
  { d with engine := { d.engine with job := none, claiming := false } }

/-- A job with a run of bytes to fetch or write (R106). -/
def withRun (p : Phase) (start stop : Nat) (j : Job) : Job :=
  { j with phase := p, next := start, stop := stop, fetched := [] }

/-- A job at the sample fetch of line i of slot s (R106). -/
def withSampleFetch (g : Geometry) (p : Phase) (s i : Nat) (j : Job) : Job :=
  withRun p (lineAddress g s i 0) (lineAddress g s i (2 * g.samples)) j

/-- How many beats the run's next transfer has: up to the next 64-byte boundary of the address or the end of the run (R106). -/
def transferBeats (j : Job) : Nat :=
  (min j.stop ((j.next / 64 + 1) * 64) - j.next) / 4

/-- The next transfer of the run in hand (R106). -/
def engineTransfer (j : Job) : MemTransfer :=
  let n := transferBeats j
  { byEngine := true, write := j.phase == .writeBack, addr := j.next, beats := n,
    lanes := if j.phase == .writeBack then j.lanes.take (4 * n) else [], orphan := false }

/-! ### Line by line (R110 to R114) -/

/-- Line i is computed with temporal values t: output, grade and trailer bytes 0 to 3 are fixed, and the engine turns to the
write-back, or for grade 6 to the stored read (R99, R112, R113). -/
def fixLine (j : Job) (i : Nat) (t : Option (List Nat)) (d : Device) : Device :=
  let g := d.control.geometry
  let step := fieldDistance g
  let f := j.fields.find? fun f => f.field == i % step
  let s := f.bind (spatialValues step i)
  let out := combine s t (f.elim 0 FieldRecord.weight) (f.elim .none FieldRecord.kind)
  let head := engineHead g.order i d.control.repair.stationTag out.2
  let j := { j with grade := out.2, head := head }
  match out.1 with
  | some values =>
    let j := withRun .writeBack (lineAddress g j.slot i 0) (lineAddress g j.slot i (2 * g.samples + 8)) j
    claimBus (setJob { j with lanes := repairedLanes g values head } d)
  | none => claimBus (setJob { withSampleFetch g .storedRead j.slot i j with lanes := [] } d)

/-- Line i, which the drain has not reached, is begun: its temporal fetch if it has a usable source, else its computation
(R110). -/
def startLine (j : Job) (i : Nat) (d : Device) : Device :=
  let g := d.control.geometry
  if temporalUsable d j.slot i then
    claimBus (setJob (withSampleFetch g .lineFetch (referenceSlot g j.slot) i j) d)
  else fixLine j i none d

/-- The line work from line r on: reached lines are skipped, the first other line is begun, and past the last line the span is
DONE (R110, R115). `fuel` is at least the number of lines left. -/
def lineWork (j : Job) : Nat → Device → Device
  | 0, d => finishSpan j d
  | fuel + 1, d =>
    let i := progressOf d j
    if j.last < i then finishSpan j d
    else if reached d j.slot i then lineWork j fuel (moveProgress j d)
    else startLine j i d

/-- The line work with fuel for every line of the span. -/
def beginLines (j : Job) (d : Device) : Device :=
  lineWork j (j.last + 2) d

/-- The computation of line i when its temporal fetch is over: skipped if the drain has reached it (R112). -/
def computeLine (j : Job) (i : Nat) (t : Option (List Nat)) (d : Device) : Device :=
  if reached d j.slot i then beginLines j (moveProgress j d) else fixLine j i t d

/-! ### The gather (R107 to R109) -/

/-- A fetch of a line of the reference slot (R108). -/
def isReferenceFetch (f : Fetch) : Bool :=
  match f.role with
  | .boundaryAbove => false
  | .boundaryBelow => false
  | .referenceAbove => true
  | .referenceBelow => true

/-- The fetches of one field run, in the order of R107. -/
def fieldFetches (d : Device) (s : Nat) (f : FieldRecord) : List Fetch :=
  let ref := referenceSlot d.control.geometry s
  let own (role : FetchRole) (b : Option Nat) : List Fetch :=
    b.toList.map fun i => { role := role, field := f.field, slot := s, line := i }
  let other (role : FetchRole) (b : Option Nat) : List Fetch :=
    (b.toList.filter (temporalUsable d s)).map fun i => { role := role, field := f.field, slot := ref, line := i }
  own .boundaryAbove f.above ++ own .boundaryBelow f.below ++ other .referenceAbove f.above
    ++ other .referenceBelow f.below

/-- The job at the first fetch of its gather list. -/
def atFetch (g : Geometry) (j : Job) : Job :=
  match j.gather with
  | [] => j
  | f :: _ => withSampleFetch g .gather f.slot f.line j

/-- The gather ends: motion figures and weights are formed and the line work begins (R109). -/
def endGather (j : Job) (d : Device) : Device :=
  let j := { j with fields := j.fields.map (finishField d.control.geometry.samples j.tStill j.tMove j.wDefault) }
  beginLines j (setJob j d)

/-- Before a transfer of the gather: the span is DONE if nothing is left of it; with the reference lost, the reference fetches
are dropped (R108). With no transfer left to issue, neither test is made and the gather ends (R109). -/
def continueGather (j : Job) (d : Device) : Device :=
  match j.gather with
  | [] => endGather j d
  | f :: _ =>
    if reached d j.slot j.last then finishSpan j d
    else if isReferenceFetch f && !referenceValid d j.slot then
      let j := atFetch d.control.geometry { j with gather := j.gather.filter fun f => !isReferenceFetch f }
      if j.gather.isEmpty then endGather j d else claimBus (setJob j d)
    else claimBus (setJob j d)

/-- A field record with a completed fetch taken in: boundary values kept; reference values compared, D raised and the pair
counted (R108). -/
def takeValues (role : FetchRole) (values : List Nat) (f : FieldRecord) : FieldRecord :=
  match role with
  | .boundaryAbove => { f with aboveValues := values }
  | .boundaryBelow => { f with belowValues := values }
  | .referenceAbove => { f with diff := f.diff + lineDifference f.aboveValues values, pairs := f.pairs + 1 }
  | .referenceBelow => { f with diff := f.diff + lineDifference f.belowValues values, pairs := f.pairs + 1 }

/-- The fetch at the head of the gather list has completed (R108). -/
def finishFetch (g : Geometry) (j : Job) : Job :=
  match j.gather with
  | [] => j
  | f :: rest =>
    let values := sampleValues g.order j.fetched
    atFetch g { j with
      gather := rest
      fields := j.fields.map fun r => if r.field = f.field then takeValues f.role values r else r }

/-! ### Taking a span (R104, R107) -/

/-- The job laid out for span p of slot s at the take (R107). What a later step forms has no value from R107: no grade, trailer or byte
to write before a line is computed, and no run in hand with an empty gather list. DESIGN CHOICE (notes/assumptions/31.md). -/
def layOutJob (d : Device) (s : Nat) (p : Span) : Job :=
  let g := d.control.geometry
  let a := d.control.repair
  let fields := (fieldRuns (fieldDistance g) p.first p.last).map (makeField d s a.reach)
  atFetch g
    { phase := .gather, slot := s, first := p.first, last := p.last, reach := a.reach, tStill := a.tStill,
      tMove := a.tMove, wDefault := a.wDefault, fields := fields, gather := fields.flatMap (fieldFetches d s), next := 0,
      stop := 0, fetched := [], grade := 0, head := [], lanes := [] }

/-- The engine takes span p of slot s: it becomes ACTIVE and its gather begins (R104, R107). -/
def takeSpan (s : Nat) (p : Span) (d : Device) : Device :=
  let j := layOutJob d s p
  let d := modifySpan s p.first (fun q => { q with state := .active }) d
  continueGather j (setJob j d)

/-- Examine the head of the repair order, span by span: one with nothing left becomes DONE, the first with something left is
taken (R104). -/
def examineOrder : List SpanRef → Device → Device
  | [], d => d
  | h :: rest, d =>
    let d := { d with engine := { d.engine with order := rest } }
    match findSpan d h.slot h.first with
    | none => examineOrder rest d
    | some p =>
      if reached d h.slot p.last then
        examineOrder rest (modifySpan h.slot h.first (fun q => { q with state := .done }) d)
      else
        let d := takeSpan h.slot p d
        if d.engine.job.isNone then examineOrder rest d else d

/-- The idle engine examines the head of the order while the run state is RUNNING (R104), at the end of the command that leaves it
idle or lengthens the order, but before the grant that follows a completion. DEDUCED (notes/assumptions/8.md); before the grant:
DESIGN CHOICE (notes/assumptions/32.md). -/
def wakeEngine (d : Device) : Device :=
  if d.control.run = .running ∧ d.engine.job = none then examineOrder d.engine.order d else d

/-! ### Transfers of the job (R106, R108, R111, R113 to R115) -/

/-- The tests the engine makes before a transfer of its job (R108, R111); a line once computed is written whole (R114). -/
def testTransfer (j : Job) (d : Device) : Device :=
  match j.phase with
  | .gather => continueGather j d
  | .lineFetch =>
    let i := progressOf d j
    if reached d j.slot i then beginLines j (moveProgress j d)
    else if referenceValid d j.slot then claimBus (setJob j d)
    else fixLine j i none d
  | .storedRead => claimBus (setJob j d)
  | .writeBack => claimBus (setJob j d)
  | .idle => d

/-- A span's tallies with one line of a grade added (R115). -/
def addTally (grade : Nat) (t : Tallies) : Tallies :=
  if grade = 1 then { t with g1 := t.g1 + 1 }
  else if grade = 2 then { t with g2 := t.g2 + 1 }
  else if grade = 3 then { t with g3 := t.g3 + 1 }
  else if grade = 4 then { t with g4 := t.g4 + 1 }
  else { t with g6 := t.g6 + 1 }

/-- Line i is tallied in its span and counted repaired (R115). -/
def tallyLine (j : Job) (d : Device) : Device :=
  bump .linesRepaired (modifySpan j.slot j.first (fun p => { p with tallies := addTally j.grade p.tallies }) d)

/-- The last transfer of line r's write-back has completed: r moves on, the line is tallied if the drain has not reached it, the
delivery unit learns of it, and the line work goes on, before a read so released is formed (R115, R133). That order: DESIGN CHOICE
(notes/assumptions/32.md). -/
def finishWriteBack (j : Job) (d : Device) : Device :=
  let i := progressOf d j
  let d := moveProgress j d
  let d := if reached d j.slot i then d else tallyLine j d
  beginLines j (releaseByWriteBack j.slot i d)

/-- The last transfer of the run in hand has completed. -/
def finishRun (j : Job) (d : Device) : Device :=
  let g := d.control.geometry
  match j.phase with
  | .gather =>
    let j := finishFetch g j
    continueGather j (setJob j d)
  | .lineFetch =>
    let t := if referenceValid d j.slot then some (sampleValues g.order j.fetched) else none
    computeLine j (progressOf d j) t d
  | .storedRead =>
    let i := progressOf d j
    let j := { withRun .writeBack (lineAddress g j.slot i (2 * g.samples)) (lineAddress g j.slot i (2 * g.samples + 8)) j
               with lanes := damagedLanes g j.fetched j.head }
    claimBus (setJob j d)
  | .writeBack => finishWriteBack j d
  | .idle => d

/-- A transfer of the job has completed with the data it fetched: the run goes on with its next transfer, or is over. The engine
then has a claim placed, or is IDLE and examines the order (R104, R106). -/
def engineCompletion (m : MemTransfer) (data : List Beat) (d : Device) : Device :=
  match d.engine.job with
  | none => d
  | some j =>
    let j := { j with next := j.next + 4 * m.beats, fetched := j.fetched ++ beatsBytes data,
                      lanes := if m.write then j.lanes.drop (4 * m.beats) else j.lanes }
    let d := setJob j d
    wakeEngine (if j.next < j.stop then testTransfer j d else finishRun j d)

/-! ### Aborts and withdrawals (R117 to R119, R122, R123) -/

/-- An engine transfer on the memory side is left to complete by itself (R119). -/
def orphanTransfer (m : MemTransfer) : MemTransfer :=
  { m with orphan := m.orphan || m.byEngine }

/-- The job is aborted: its data are discarded, a waiting claim is withdrawn, a transfer on the memory side completes by itself
(R117, R118, R119). -/
def abortJob (d : Device) : Device :=
  { d with engine := { d.engine with job := none, claiming := false },
           arbiter := { d.arbiter with onBus := d.arbiter.onBus.map orphanTransfer } }

/-- The job is aborted if the ACTIVE span belongs to slot s (R117, R118). -/
def abortJobOf (s : Nat) (d : Device) : Device :=
  match d.engine.job with
  | some j => if j.slot = s then abortJob d else d
  | none => d

/-- The spans of slot s leave the repair order (R75, R76). -/
def leaveOrder (s : Nat) (d : Device) : Device :=
  { d with engine := { d.engine with order := d.engine.order.filter fun r => r.slot != s } }

/-! ### Urgency (R103) -/

/-- The ACTIVE span is urgent: its slot is DRAINING, or its frame is at most U frames ahead of the drain (R103). -/
def activeUrgent (d : Device) : Bool :=
  match d.engine.job with
  | none => false
  | some j =>
    (slotAt d j.slot).state == .draining
      || ((slotAt d j.slot).frame - d.ring.drainFrame).toNat ≤ d.control.repair.urgency

end Sys2Proof.Machine
end

