-- ==== Sys2Proof/Machine/Check.lean ====
section
/-! DEFINITION. The line checker (03): legality (R45), the open line (R48 to R54), line end (R51, R52), and the end of a fill (R56
to R58). Hand-overs go to the damage map through `handOver` (R55). -/

namespace Sys2Proof.Machine

/-- A sample word is illegal: outside LO to HI on its full 16 bits (R45). -/
def isIllegal (g : Geometry) (word : Nat) : Bool := word < g.lo || g.hi < word

/-- How many of a beat's two sample words are illegal (R45, R50). -/
def illegalWords (g : Geometry) (b : Beat) : Nat :=
  ((packetWords g.order (beatBytes b)).filter (isIllegal g)).length

/-- The beat at line offset q carries full enables: all four, or at trailer bytes 4 to 7 both check-word bytes (R49). -/
def fullEnables (g : Geometry) (q : Nat) (e : Enables) : Bool :=
  if isTail g q then e.en0 && e.en1 else e.en0 && e.en1 && e.en2 && e.en3

/-- The status of line i in the fill line table (R47). -/
def statusOf (d : Device) (i : Nat) : LineStatus := d.checker.table.getD i .unwritten

/-- Put a status in the fill line table. -/
def setStatus (i : Nat) (s : LineStatus) (d : Device) : Device :=
  { d with checker := { d.checker with table := modifyAt (fun _ => s) i d.checker.table } }

/-- Put an open-line context in the checker, or none. -/
def setContext (c : Option OpenLine) (d : Device) : Device :=
  { d with checker := { d.checker with context := c } }

/-- The cause set with one cause. -/
def onlyTorn : Causes := { Causes.nil with torn := true }

/-- The cause set {REWRITE}. -/
def onlyRewrite : Causes := { Causes.nil with rewrite := true }

/-- The cause set {MISSING}. -/
def onlyMissing : Causes := { Causes.nil with missing := true }

/-- Some cause is in the set. -/
def Causes.any (c : Causes) : Bool :=
  c.check || c.deck || c.range || c.number || c.torn || c.rewrite || c.missing

/-- DROPOUT or SYNC is set in a deck flags byte (R51, section 10.1). -/
def deckDamage (deck : Byte) : Bool := deck.getLsbD 0 || deck.getLsbD 1

/-- CHROMA is set in a deck flags byte (R52, section 10.1). -/
def deckChroma (deck : Byte) : Bool := deck.getLsbD 2

/-- The open line after a continuing sample beat (R50). -/
def takeSampleBeat (g : Geometry) (b : Beat) (c : OpenLine) : OpenLine :=
  { c with next := c.next + 4, crc := crc16 c.crc (beatBytes b), illegal := c.illegal + illegalWords g b }

/-- The open line after a continuing trailer bytes 0 to 3 beat (R50). -/
def takeHeadBeat (g : Geometry) (b : Beat) (c : OpenLine) : OpenLine :=
  { c with next := c.next + 4, crc := crc16 c.crc (beatBytes b),
           stored := some { number := packetWord g.order b.lane0 b.lane1, deck := b.lane2 } }

/-- The causes of a line at its line end, from the trailer bytes 4 to 7 beat (R51). -/
def lineCauses (d : Device) (b : Beat) (c : OpenLine) : Causes :=
  let g := d.control.geometry
  { check := c.crc.toNat != packetWord g.order b.lane0 b.lane1,
    deck := c.stored.elim false fun t => deckDamage t.deck,
    range := d.control.repair.tolerance < c.illegal,
    number := c.stored.elim false fun t => t.number != c.line,
    torn := false, rewrite := false, missing := false }

/-- Line end: the open line of slot s is judged, counted, and handed over if it has a cause (R51, R52). -/
def endLine (s : Nat) (b : Beat) (c : OpenLine) (d : Device) : Device :=
  let causes := lineCauses d b c
  let d := bump .linesChecked d
  let d := if c.stored.elim false fun t => deckChroma t.deck then bump .chromaLines d else d
  let d := setContext none d
  if causes.any then handOver s c.line causes true (setStatus c.line .failed d) else setStatus c.line .passed d

/-- The open line is abandoned: TORN, handed over, the context emptied (R53). -/
def tearLine (s : Nat) (c : OpenLine) (d : Device) : Device :=
  handOver s c.line onlyTorn true (setContext none (setStatus c.line .torn d))

/-- A continuing beat is taken into the open line (R50, R51). -/
def continueLine (s q : Nat) (b : Beat) (c : OpenLine) (d : Device) : Device :=
  let g := d.control.geometry
  if isSample g q then setContext (some (takeSampleBeat g b c)) d
  else if isHead g q then setContext (some (takeHeadBeat g b c)) d
  else endLine s b c d

/-- A beat of line i with no line open (R54). -/
def startBeat (s i q : Nat) (b : Beat) (full : Bool) (d : Device) : Device :=
  match statusOf d i with
  | .unwritten =>
    if q = 0 ∧ full then
      let fresh : OpenLine := { line := i, next := 0, crc := crc16Start, illegal := 0, stored := none }
      setContext (some (takeSampleBeat d.control.geometry b fresh)) (setStatus i .lineOpen d)
    else handOver s i onlyTorn true (setStatus i .torn d)
  | .passed => handOver s i onlyRewrite true (setStatus i .rewritten d)
  | .failed => handOver s i onlyRewrite false (setStatus i .rewritten d)
  | .torn => d
  | .rewritten => d
  | .missing => d
  | .lineOpen => d

/-- The checker takes a write beat of line i, line offset q, of the fill slot s (R49, R50, R53, R54). -/
def checkBeat (s i q : Nat) (b : Beat) (e : Enables) (d : Device) : Device :=
  let full := fullEnables d.control.geometry q e
  match d.checker.context with
  | some c =>
    if c.line = i then
      if c.next = q ∧ full then continueLine s q b c d else tearLine s c d
    else startBeat s i q b full (tearLine s c d)
  | none => startBeat s i q b full d

/-- A slot is begun: the context is empty and the table has N entries UNWRITTEN (R56). -/
def startTable (d : Device) : Device :=
  { d with checker := Checker.start d.control.geometry.lines }

/-- One UNWRITTEN line becomes MISSING and is handed over (R57). -/
def missLine (s i : Nat) (d : Device) : Device :=
  handOver s i onlyMissing true (setStatus i .missing d)

/-- The checker's steps at the close of slot s's fill: the open line is TORN, then every UNWRITTEN line is MISSING, in ascending
order (R57). -/
def closeTable (s : Nat) (d : Device) : Device :=
  let d := match d.checker.context with
    | some c => tearLine s c d
    | none => d
  (placesOf (fun x => x == .unwritten) 0 d.checker.table).foldl (fun d i => missLine s i d) d

/-- The unchecked-from line h: the lowest line that is UNWRITTEN or OPEN, or N (R36, R58). -/
def uncheckedLine (d : Device) : Nat :=
  (placesOf (fun x => x == .unwritten || x == .lineOpen) 0 d.checker.table).headD d.control.geometry.lines

end Sys2Proof.Machine
end

