-- ==== Sys2Proof/Machine/Settings.lean ====
section
/-! DEFINITION. The settings block: its 56-byte layout (section 10.3), the clamping of the repair fields (R163), the geometry
checks of ARM (R165) and the two copies as READ SETTINGS shows them (R173, R181). -/

namespace Sys2Proof.Machine

/-- The staged copy that a 56-byte payload writes (R173, section 10.3); byte 41 is ignored. -/
def parseSettings (p : List Byte) : Staged :=
  { base := payload32 p 0, slots := payloadByte p 4, modes := payloadByte p 5, slotPitch := payload32 p 6,
    lines := payload16 p 10, samples := payload16 p 12, linePitch := payload16 p 14, lo := payload16 p 16,
    hi := payload16 p 18, tolerance := payloadByte p 20, reach := payloadByte p 21, tStill := payload16 p 22,
    tMove := payload16 p 24, wDefault := payloadByte p 26, holdBudget := payloadByte p 27,
    holdAllowance := payload16 p 28, urgency := payloadByte p 30, urgentPrecedence := payloadByte p 31,
    stationTag := payloadByte p 32, w1 := payloadByte p 33, w2 := payloadByte p 34, w3 := payloadByte p 35,
    w4 := payloadByte p 36, w5 := payloadByte p 37, w6 := payloadByte p 38, recovery := payloadByte p 39,
    alarm := payloadByte p 40, t1 := payload16 p 42, t2 := payload16 p 44, t3 := payload16 p 46, t4 := payload16 p 48,
    t5 := payload16 p 50, t6 := payload16 p 52, t7 := payload16 p 54 }

/-- The staged copy as a 56-byte reply, with the last refusal reason in byte 41 (R173, section 10.3). -/
def stagedBytes (s : Staged) (refusal : Nat) : List Byte :=
  field32 s.base ++ [s.slots, s.modes] ++ field32 s.slotPitch ++ field16 s.lines ++ field16 s.samples
    ++ field16 s.linePitch ++ field16 s.lo ++ field16 s.hi ++ [s.tolerance, s.reach] ++ field16 s.tStill
    ++ field16 s.tMove ++ [s.wDefault, s.holdBudget] ++ field16 s.holdAllowance
    ++ [s.urgency, s.urgentPrecedence, s.stationTag, s.w1, s.w2, s.w3, s.w4, s.w5, s.w6, s.recovery, s.alarm,
        byteOf refusal]
    ++ field16 s.t1 ++ field16 s.t2 ++ field16 s.t3 ++ field16 s.t4 ++ field16 s.t5 ++ field16 s.t6 ++ field16 s.t7

/-- Byte 5 of the active copy: scan in bit 0, sample byte order in bit 1, bits 2 to 7 zero (R181). -/
def modesByte (g : Geometry) : Byte :=
  (match g.scan with
    | .progressive => 0
    | .interleaved => 1)
  ||| (match g.order with
    | .lowFirst => 0
    | .highFirst => 2)

/-- The active copy as a 56-byte reply, with 0 in byte 41 (R173, R181, section 10.3). -/
def activeBytes (g : Geometry) (r : RepairSettings) : List Byte :=
  nat32 g.base ++ [byteOf g.slots, modesByte g] ++ nat32 g.slotPitch ++ nat16 g.lines ++ nat16 g.samples
    ++ nat16 g.linePitch ++ nat16 g.lo ++ nat16 g.hi ++ [byteOf r.tolerance, byteOf r.reach] ++ nat16 r.tStill
    ++ nat16 r.tMove ++ [byteOf r.wDefault, byteOf r.holdBudget] ++ nat16 r.holdAllowance
    ++ [byteOf r.urgency, if r.urgentPrecedence then 1 else 0, byteOf r.stationTag, byteOf r.weights.g1,
        byteOf r.weights.g2, byteOf r.weights.g3, byteOf r.weights.g4, byteOf r.weights.g5, byteOf r.weights.g6,
        byteOf r.recovery, byteOf r.alarm, 0]
    ++ nat16 r.thresholds.t1 ++ nat16 r.thresholds.t2 ++ nat16 r.thresholds.t3 ++ nat16 r.thresholds.t4
    ++ nat16 r.thresholds.t5 ++ nat16 r.thresholds.t6 ++ nat16 r.thresholds.t7

/-- The staged geometry as the active copy takes it: unchanged, with bits 0 and 1 of byte 5 as scan and byte order (R163,
R181). -/
def stagedGeometry (s : Staged) : Geometry :=
  { base := s.base.toNat, slots := s.slots.toNat, slotPitch := s.slotPitch.toNat, lines := s.lines.toNat,
    samples := s.samples.toNat, linePitch := s.linePitch.toNat,
    scan := if s.modes.getLsbD 0 then .interleaved else .progressive,
    order := if s.modes.getLsbD 1 then .highFirst else .lowFirst, lo := s.lo.toNat, hi := s.hi.toNat }

/-- The staged repair fields as the active copy takes them, clamped (R163). -/
def clampRepair (s : Staged) : RepairSettings :=
  { tolerance := s.tolerance.toNat, reach := max 1 (min s.reach.toNat 8), tStill := min s.tStill.toNat 1023,
    tMove := min s.tMove.toNat 1023, wDefault := min s.wDefault.toNat 16, holdBudget := s.holdBudget.toNat,
    holdAllowance := s.holdAllowance.toNat, urgency := min s.urgency.toNat 7,
    urgentPrecedence := s.urgentPrecedence != 0, stationTag := min s.stationTag.toNat 15,
    weights := { g1 := min s.w1.toNat 15, g2 := min s.w2.toNat 15, g3 := min s.w3.toNat 15, g4 := min s.w4.toNat 15,
                 g5 := min s.w5.toNat 15, g6 := min s.w6.toNat 15 },
    recovery := max 1 s.recovery.toNat, alarm := min s.alarm.toNat 7,
    thresholds := { t1 := s.t1.toNat, t2 := s.t2.toNat, t3 := s.t3.toNat, t4 := s.t4.toNat, t5 := s.t5.toNat,
                    t6 := s.t6.toNat, t7 := s.t7.toNat } }

/-- The number of the first geometry check that fails, 0 when every check passes (R165). -/
def geometryRefusal (g : Geometry) : Nat :=
  if g.slots < 4 ∨ 64 < g.slots then 1
  else if g.samples < 16 ∨ 4096 < g.samples ∨ g.samples % 2 = 1 then 2
  else if g.linePitch % 16 ≠ 0 ∨ g.linePitch < 2 * g.samples + 8 ∨ 16384 < g.linePitch then 3
  else if g.lines < 8 ∨ 2048 < g.lines ∨ (g.scan = .interleaved ∧ g.lines % 2 = 1) then 4
  else if g.slotPitch % 4096 ≠ 0 ∨ g.slotPitch < g.lines * g.linePitch then 5
  else if g.base % 4096 ≠ 0 then 6
  else if Config.memorySize < g.base + g.slots * g.slotPitch then 7
  else if g.hi ≤ g.lo ∨ 1023 < g.hi then 8
  else 0

/-- At a drain start, the staged repair fields are copied, clamped, when the settings-pending flag is set, and the flag is
cleared (R164). -/
def applyPending (d : Device) : Device :=
  if d.control.settingsPending then
    { d with control := { d.control with repair := clampRepair d.control.staged, settingsPending := false } }
  else d

end Sys2Proof.Machine
end

