-- ==== Sys2Proof/Machine/Track.lean ====
section
/-! DEFINITION. The ring tracker (02): the fill side (R23 to R34), with the map's and the engine's part in it (R74 to R76, R117,
R118), and the drain side (R35 to R38). -/

namespace Sys2Proof.Machine

/-! ### The close of a fill (R26, R74) -/

/-- The state a slot takes when its fill closes: FILLING becomes FILLED, an overtaken slot keeps its state (R26 step 3). -/
def closedState : SlotState → SlotState
  | .filling => .filled
  | .empty => .empty
  | .filled => .filled
  | .draining => .draining
  | .drained => .drained

/-- The spans of slot s become QUEUED and join the tail of the repair order in ascending order of first line (R74). -/
def queueSpans (s : Nat) (d : Device) : Device :=
  let d := setSpans s ((spansOf d s).map fun p => { p with state := .queued }) d
  { d with engine := { d.engine with
      order := d.engine.order ++ (spansOf d s).map fun p => { slot := s, first := p.first } } }

/-- The fill of slot s closes; `lost` when by a lock loss or a jump, which sets SEEK (R26). -/
def closeFill (s : Nat) (lost : Bool) (d : Device) : Device :=
  let d := closeTable s d
  let d := if lost then modifySlot s (fun e => { e with flags := { e.flags with seek := true } }) d else d
  let d := modifySlot s (fun e => { e with state := closedState e.state }) d
  let d := queueSpans s d
  bump .framesFilled { d with ring := { d.ring with fillOpen := false } }

/-- Close the fill of the fill slot if it is open (R29, R30, R32). -/
def closeOpenFill (lost : Bool) (d : Device) : Device :=
  match d.ring.fillSlot with
  | some f => if d.ring.fillOpen then closeFill f lost d else d
  | none => d

/-! ### Beginning a slot (R27, R28, R76, R117) -/

/-- Every span of slot s is freed; an ACTIVE span's job is aborted and QUEUED spans leave the order (R76, R117). -/
def freeSpans (s : Nat) (d : Device) : Device :=
  setSpans s [] (leaveOrder s (abortJobOf s d))

/-- The DRAINING slot becomes none, the drain frame number being kept (R28, R37). -/
def noDraining (d : Device) : Device :=
  { d with ring := { d.ring with draining := none } }

/-- The frame that slot s holds is disposed of before the slot is begun (R27, R28). The OVERWRITTEN report of a FILLING frame takes its
counts from the frame's WAITING spans, as R27, R30 and R146 build it, though R76 says that nothing is reported for them. DEDUCED
(notes/assumptions/26.md). -/
def disposeFrame (s : Nat) (d : Device) : Device :=
  let e := slotAt d s
  match e.state with
  | .empty => d
  | .drained => d
  | .filling => raise .frameOverwritten (report (undrainedEnding e.frame s) d)
  | .filled => raise .frameOverwritten (report (undrainedEnding e.frame s) d)
  | .draining => noDraining (raise .frameOverwritten (handOverDraining .overwritten d))

/-- The disposal of a frame in this state makes an OVERWRITTEN report (R27). -/
def overwrites : SlotState → Bool
  | .empty => false
  | .drained => false
  | .filling => true
  | .filled => true
  | .draining => true

/-- Slot s becomes FILLING with the next frame number, all flags clear but OVERWRITTEN as told, and is the open fill slot (R27). Its
unchecked-from line, which R20 makes meaningful only while OVERTAKE is set and R27 gives no value, is 0. DESIGN CHOICE
(notes/assumptions/30.md). -/
def fillWith (s : Nat) (overwritten : Bool) (d : Device) : Device :=
  let n := d.ring.nextFrame
  let d := modifySlot s (fun _ =>
    { state := .filling, frame := n, flags := { SlotFlags.clear with overwritten := overwritten }, uncheckedFrom := 0 }) d
  { d with ring := { d.ring with nextFrame := n + 1, fillSlot := some s, fillOpen := true } }

/-- A write begins slot s: disposal of its old frame, freeing of its spans, the new frame, and the checker's new table (R27,
R56, R76). -/
def beginSlot (s : Nat) (d : Device) : Device :=
  let lostOld := overwrites (slotAt d s).state
  startTable (fillWith s lostOld (freeSpans s (disposeFrame s d)))

/-! ### Lock (R23, R29, R30, R32 to R34) -/

/-- Put a lock sub-state. -/
def setLock (l : Lock) (d : Device) : Device :=
  { d with ring := { d.ring with lock := some l } }

/-- A lock loss or a jump is counted, LOCK_LOST raised and LOCK_HELD falls (R30, R32). -/
def loseLock (d : Device) : Device :=
  fallLockHeld (raise .lockLost (bump .lockLosses d))

/-- The run's first write: RUNNING, LOCKED, slot s FILLING frame 0 (R23). -/
def startRun (s : Nat) (d : Device) : Device :=
  let d := { d with control := { d.control with run := .running }, ring := { d.ring with draining := none, nextFrame := 0 } }
  setLock .locked (startTable (fillWith s false (freeSpans s d)))

/-- An advance: the open fill is closed without SEEK and slot s begun (R29). -/
def advanceTo (s : Nat) (d : Device) : Device :=
  beginSlot s (closeOpenFill false d)

/-- A jump: a lock loss counted, the open fill of another slot closed with SEEK, slot s begun, LOCKED kept (R30). -/
def jumpTo (s : Nat) (d : Device) : Device :=
  let d := loseLock d
  beginSlot s (if d.ring.fillSlot = some s then d else closeOpenFill true d)

/-- A relock: slot s begun while SEEKING (R34). -/
def relockAt (s : Nat) (d : Device) : Device :=
  setLock .locked (beginSlot s d)

/-- The spans of slot t that are not DONE become ABANDONED (R75). -/
def abandonSpans (t : Nat) (d : Device) : Device :=
  setSpans t ((spansOf d t).map fun p => { p with state := if p.state = .done then .done else .abandoned }) d

/-- Slot t, not EMPTY and not yet STALE, is marked STALE: its spans abandoned, its job aborted, the frame counted, SLOT_STALE
raised (R33, R75, R118). -/
def markStale (t : Nat) (d : Device) : Device :=
  let e := slotAt d t
  if e.state = .empty ∨ e.flags.stale then d
  else
    let d := modifySlot t (fun e => { e with flags := { e.flags with stale := true } }) d
    let d := abandonSpans t (leaveOrder t (abortJobOf t d))
    raise .slotStale (bump .framesStale d)

/-- A lock loss by a beat in slot t (R32). -/
def lockLoss (t : Nat) (d : Device) : Device :=
  loseLock (setLock .seeking (markStale t (closeOpenFill true d)))

/-! ### Write beats (R19, R23, R25, R31) -/

/-- A beat of the open fill slot: the checker's, and a normal close when it is trailer bytes 4 to 7 of line N-1 with both
check-word bytes enabled (R25, R31). -/
def fillBeat (s i q : Nat) (b : Beat) (e : Enables) (d : Device) : Device :=
  let g := d.control.geometry
  let d := checkBeat s i q b e d
  if i + 1 = g.lines ∧ isTail g q ∧ e.en0 ∧ e.en1 then closeFill s false d else d

/-- A write begins slot s while RUNNING: relock, advance or jump (R25). -/
def beginWrite (s : Nat) (d : Device) : Device :=
  if d.ring.lock = some .seeking then relockAt s d
  else if d.ring.fillSlot.map (slotAfter d.control.geometry) = some s then advanceTo s d
  else jumpTo s d

/-- A write line beat while RUNNING, the first case of R25 that applies; `first` marks the first beat of its write. -/
def runningBeat (first : Bool) (s i q : Nat) (b : Beat) (e : Enables) (d : Device) : Device :=
  if first && i == 0 && q == 0 then checkBeat s i q b e (beginWrite s d)
  else if d.ring.fillSlot = some s ∧ d.ring.fillOpen then fillBeat s i q b e d
  else if d.ring.lock = some .locked then lockLoss s d
  else markStale s d

/-- The ring tracker and the line checker take a write beat at a burner address (R4, R5, R19, R23, R49). A write that is outside the
ring from its start in OFF, or from the end of its run, stays so in ARMED and starts no run (R4, R166); none is in progress in
RUNNING, since a run starts with a write begun in ARMED. Else the run state at the beat counts (DEDUCED,
notes/assumptions/9.md). The idle engine then examines the order as it stands (R104). -/
def takeWriteBeat (first outside : Bool) (a : Nat) (b : Beat) (e : Enables) (d : Device) : Device :=
  match nameAddress d.control.geometry a with
  | .outside => d
  | .slack _ => d
  | .line s i q =>
    match d.control.run with
    | .off => d
    | .armed => if first && !outside && i == 0 && q == 0 then wakeEngine (checkBeat s i q b e (startRun s d)) else d
    | .running => wakeEngine (runningBeat first s i q b e d)

/-! ### Read beats (R35 to R38) -/

/-- A drain end: the DRAINING slot becomes DRAINED, and the delivery unit closes its record (R37). -/
def endDrain (d : Device) : Device :=
  match d.ring.draining with
  | none => d
  | some s => closeRecord (noDraining (modifySlot s (fun e => { e with state := .drained }) d))

/-- Slot s becomes the DRAINING slot (R35 step 3). -/
def makeDraining (s : Nat) (d : Device) : Device :=
  let d := modifySlot s (fun e => { e with state := .draining }) d
  { d with ring := { d.ring with draining := some s, drainFrame := (slotAt d s).frame } }

/-- A drain start on slot s: any drain ends, pending settings apply, s becomes DRAINING, a record is opened (R35). -/
def startDrain (s : Nat) (d : Device) : Device :=
  openRecord s (makeDraining s (applyPending (endDrain d)))

/-- A drain start with overtake on slot s, whose fill is open (R36). -/
def overtakeDrain (s : Nat) (d : Device) : Device :=
  let d := applyPending (endDrain d)
  let h := uncheckedLine d
  let d := modifySlot s (fun e => { e with flags := { e.flags with overtake := true }, uncheckedFrom := h })
    (makeDraining s d)
  raise .overtake (openRecord s d)

/-- The ring tracker takes a read beat at the base of a slot (R35, R36, R38). -/
def baseRead (s : Nat) (d : Device) : Device :=
  match (slotAt d s).state with
  | .filled => startDrain s d
  | .filling => overtakeDrain s d
  | .empty => d
  | .draining => d
  | .drained => d

end Sys2Proof.Machine
end

