-- ==== Sys2Proof/WellFormed.lean ====
section
/-! DEFINITION. Which command terms stand for something the parties can do: a transfer that stays inside the 26-bit address
space at multiples of 4, and an unknown request code that is indeed not in the table of section 9.6. -/

namespace Sys2Proof

/-- A burner transfer's start address is a multiple of 4 and its last beat lies in buffer memory (00_scope.md
"Addresses"; section 1). -/
def transferFits (addr : BitVec 26) (blen : BitVec 4) : Bool :=
  addr.toNat % 4 == 0 && addr.toNat + 4 * (blen.toNat + 1) ≤ Config.memorySize

/-- The request codes of section 9.6, 0x01 to 0x0D. -/
def knownCode (code : Byte) : Bool :=
  1 ≤ code.toNat && code.toNat ≤ 13

/-- The check of one command term. -/
def WellFormed : Instr → Bool
  | .burnerTransferStart _ addr blen => transferFits addr blen
  | .writeBeatAccepted _ _ => true
  | .readBeatData _ => true
  | .memoryTransferComplete data => data.length ≤ 16
  | .holdExpiry => true
  | .reset => true
  | .transactionBegin => true
  | .transactionEnd => true
  | .identify _ => true
  | .readSettings _ => true
  | .writeSettings _ _ => true
  | .arm _ => true
  | .endRun _ => true
  | .readReport _ => true
  | .reportPop => true
  | .readCounters _ => true
  | .readQuality _ => true
  | .mapQuery _ => true
  | .snapshotTaken => true
  | .mapFetch _ => true
  | .readAttention _ => true
  | .clearAttention _ _ => true
  | .setAttentionEnable _ _ => true
  | .unknownRequestCode code _ => !knownCode code

end Sys2Proof
end

