-- ==== Sys2Proof/Machine/Bus.lean ====
section
/-! DEFINITION. The pass-through port and the memory-side arbiter (01), and the meanings of the commands of the buffer bus:
BURNER_TRANSFER_START, WRITE_BEAT_ACCEPTED, READ_BEAT_DATA, MEMORY_TRANSFER_COMPLETE and HOLD_EXPIRY. -/

namespace Sys2Proof.Machine

/-! ### Views -/

/-- The port state of R1. -/
inductive PortState where
  | idle
  | waiting
  | forwarding
  | held
deriving DecidableEq, Repr

/-- The port state (R1). -/
def portState (d : Device) : PortState :=
  match d.port.transfer with
  | none => .idle
  | some t =>
    match t.mode with
    | .waiting => .waiting
    | .forwarding => .forwarding
    | .held => .held

/-- The owner of the memory side (R13). -/
inductive Owner where
  | free
  | burner
  | engine
deriving DecidableEq, Repr

/-- The owner of the memory side: FREE, or who issued the transfer on it (R13). -/
def owner (d : Device) : Owner :=
  match d.arbiter.onBus with
  | none => .free
  | some m => if m.byEngine then .engine else .burner

/-- The engine's phase (R104). -/
def enginePhase (d : Device) : Phase := d.engine.job.elim .idle Job.phase

/-- The burner claim waits at the arbiter: the port is WAITING (R1, R13). -/
def burnerClaim (d : Device) : Bool := portState d == .waiting

/-- Put a burner transfer context in the port, or none. -/
def setTransfer (t : Option BurnerTransfer) (d : Device) : Device :=
  { d with port := { d.port with transfer := t } }

/-- Put a transfer on the memory side, or free it. -/
def setBus (m : Option MemTransfer) (d : Device) : Device :=
  { d with arbiter := { d.arbiter with onBus := m } }

/-! ### Forming (R6 to R10, R19) -/

/-- The answer to one beat of a forming: the part after the ring tracker's and the delivery unit's steps, the beat's treatment,
its tag if it is a beat of the DRAINING slot, and whether it ends the drain. -/
structure Asked where
  device : Device
  treatment : Treatment
  tag : Option BeatTag
  ends : Bool
deriving DecidableEq, Repr

/-- The ring tracker takes a read beat at address a, and the delivery unit is asked about it if it is a beat of the DRAINING slot
(R6, R7, R19, R35 to R38, R127). -/
def askBeat (a : Nat) (d : Device) : Asked :=
  let g := d.control.geometry
  match nameAddress g a with
  | .outside => { device := d, treatment := .readAt a, tag := none, ends := false }
  | .slack _ => { device := d, treatment := .readAt a, tag := none, ends := false }
  | .line s i q =>
    let d := if i == 0 && q == 0 then baseRead s d else d
    if d.ring.draining = some s then
      let tag : BeatTag := { line := i, offset := q }
      if isSample g q then
        let r := askSample i q d
        { device := r.1, treatment := r.2.getD (.readAt a), tag := some tag, ends := false }
      else { device := d, treatment := .readAt a, tag := some tag, ends := i + 1 == g.lines && isTail g q }
    else { device := d, treatment := .readAt a, tag := none, ends := false }

/-- A beat joins the part: a beat of the drain is on its way to the record, and the ending beat ends the drain (R37, R126). -/
def takeIn (k : Asked) : Device :=
  let d := if k.tag.isSome then onRecord (fun r => { r with inFlight := r.inFlight + 1 }) k.device else k.device
  if k.ends then endDrain d else d

/-- What a forming finds: the part after it, the memory-side address of its first beat (`none` when no beat was taken in), the
tags of its beats, and whether it stopped at a Hold (R7). -/
structure Formed where
  device : Device
  start : Option Nat
  tags : List (Option BeatTag)
  hold : Bool
deriving DecidableEq, Repr

/-- Form a part from at most `left` beats, the first at burner address a; `follows` is the memory-side address after the beat
before (R7). -/
def formPart : Nat → Nat → Option Nat → Device → Formed
  | 0, _, _, d => { device := d, start := none, tags := [], hold := false }
  | left + 1, a, follows, d =>
    let k := askBeat a d
    match k.treatment with
    | .hold => { device := k.device, start := none, tags := [], hold := true }
    | .readAt m =>
      if follows = none ∨ follows = some m then
        let rest := formPart left (a + 4) (some (m + 4)) (takeIn k)
        { rest with start := some m, tags := k.tag :: rest.tags }
      else { device := k.device, start := none, tags := [], hold := false }

/-! ### Grants (R7, R8, R13, R14) -/

/-- The remainder of a burner transfer forwarded as one unchanged memory-side transfer (R2, R4, R16, R17). -/
def forwardWhole (t : BurnerTransfer) (d : Device) : Device :=
  let n := t.beats - t.next
  setBus (some { byEngine := false, write := t.write, addr := t.addr + 4 * t.next, beats := n, lanes := [], orphan := false })
    (setTransfer (some { t with mode := .forwarding, holdAsked := false,
                                inPart := if t.write then [] else List.replicate n none }) d)

/-- A read formed under R7 at its grant: a part on the memory side, or HELD with the memory side handed back (R7, R10). -/
def forwardPart (t : BurnerTransfer) (d : Device) : Device :=
  let f := formPart (t.beats - t.next) (t.addr + 4 * t.next) none d
  match f.start with
  | none => setTransfer (some { t with mode := .held, holdAsked := false, inPart := [] }) f.device
  | some m =>
    setBus (some { byEngine := false, write := false, addr := m, beats := f.tags.length, lanes := [], orphan := false })
      (setTransfer (some { t with mode := .forwarding, holdAsked := f.hold, inPart := f.tags }) f.device)

/-- The burner claim is granted: the pass-over mark clears and the memory-side transfer is formed (R2, R7, R14). -/
def grantBurner (d : Device) : Device :=
  let d := { d with arbiter := { d.arbiter with passOver := false } }
  match d.port.transfer with
  | none => d
  | some t => if t.write || t.unchanged then forwardWhole t d else forwardPart t d

/-- The engine makes the tests it makes before it issues a transfer (R108, R111). DEDUCED (notes/assumptions/6.md). -/
def retestEngine (d : Device) : Device :=
  match d.engine.job with
  | none => d
  | some j => wakeEngine (testTransfer j d)

/-- The engine's claim is granted: its transfer goes on the memory side as given (R13). -/
def issueEngine (d : Device) : Device :=
  match d.engine.job with
  | none => d
  | some j => setBus (some (engineTransfer j)) { d with engine := { d.engine with claiming := false } }

/-- The engine's claim is granted, after its tests; with nothing left to issue the memory side stays free. -/
def grantEngine (d : Device) : Device :=
  let d := retestEngine d
  if d.engine.claiming then issueEngine d else d

/-- With both claims waiting, the engine's is granted first: urgent precedence is on, the ACTIVE span is urgent, the burner claim
is a write and the pass-over mark is clear (R14). -/
def passesOver (d : Device) : Bool :=
  d.control.repair.urgentPrecedence && activeUrgent d && (d.port.transfer.elim false BurnerTransfer.write)
    && !d.arbiter.passOver

/-- The engine's claim is granted if it waits and the memory side is free. -/
def grantEngineIfFree (d : Device) : Device :=
  if d.arbiter.onBus.isNone && d.engine.claiming then grantEngine d else d

/-- The burner claim is granted if it waits and the memory side is free. -/
def grantBurnerIfFree (d : Device) : Device :=
  if d.arbiter.onBus.isNone && burnerClaim d then grantBurner d else d

/-- The pass-over mark is set (R14). -/
def markPassOver (d : Device) : Device :=
  { d with arbiter := { d.arbiter with passOver := true } }

/-- The arbiter's grant: none while a transfer is on the memory side; else by the precedence of R14. A burner read that forms no
part hands the memory side back to a waiting engine claim (R7). -/
def arbitrate (d : Device) : Device :=
  if d.arbiter.onBus.isSome then d
  else if d.engine.claiming && burnerClaim d && passesOver d then
    grantBurnerIfFree (grantEngineIfFree (markPassOver d))
  else grantEngineIfFree (grantBurnerIfFree d)

/-! ### BURNER_TRANSFER_START (R1, R4, R6) -/

/-- The burner transfer context of a new transfer (R1). -/
def newTransfer (write : Bool) (addr : BitVec 26) (blen : BitVec 4) (run : RunState) : BurnerTransfer :=
  { write := write, addr := addr.toNat, beats := blen.toNat + 1, next := 0, mode := .waiting, written := [],
    unchanged := run != .running, outside := run == .off, holdAsked := false, inPart := [] }

/-- The effect of BURNER_TRANSFER_START: the port takes the context, and its claim goes to the arbiter at once (R1). -/
def startTransfer (write : Bool) (addr : BitVec 26) (blen : BitVec 4) (d : Device) : Device :=
  arbitrate (setTransfer (some (newTransfer write addr blen d.control.run)) d)

/-- BURNER_TRANSFER_START. -/
def execBurnerTransferStart (write : Bool) (addr : BitVec 26) (blen : BitVec 4) (s : State) :
    Host.Outcome State Fault Refusal :=
  if !transferFits addr blen then .fault .noSuchAddress
  else if s.port.transfer.isSome then .fault .portBusy
  else .next (s.onDevice (startTransfer write addr blen))

/-! ### WRITE_BEAT_ACCEPTED (R2, R5, R19, R23 to R34, R49 to R58) -/

/-- A burner write is on the memory side with a beat still to be accepted (R2). -/
def writeBeatDue (d : Device) : Bool :=
  d.port.transfer.elim false fun t => t.write && t.mode == .forwarding && t.next < t.beats

/-- The write beat goes to the memory side as the burner presents it, and burner ready is given for it (R2). -/
def acceptBeat (t : BurnerTransfer) (b : Beat) (e : Enables) (d : Device) : Device :=
  setTransfer (some { t with next := t.next + 1, written := t.written ++ [(b, e)] }) d

/-- The effect of WRITE_BEAT_ACCEPTED (R2, R5). -/
def acceptWrite (b : Beat) (e : Enables) (d : Device) : Device :=
  match d.port.transfer with
  | none => d
  | some t => takeWriteBeat (t.next == 0) t.outside (t.addr + 4 * t.next) b e (acceptBeat t b e d)

/-- WRITE_BEAT_ACCEPTED. -/
def execWriteBeatAccepted (data : Beat) (enables : Enables) (s : State) : Host.Outcome State Fault Refusal :=
  if writeBeatDue s.toDevice then .next (s.onDevice (acceptWrite data enables)) else .fault .noWriteBeat

/-! ### READ_BEAT_DATA (R3, R12, R136 to R141) -/

/-- A burner read is on the memory side with a beat still to return (R3). -/
def readBeatDue (d : Device) : Bool :=
  d.port.transfer.elim false fun t => !t.write && t.mode == .forwarding && !t.inPart.isEmpty

/-- The burner is given the beat that the delivery unit hands on (R3, R12). -/
def giveBeat (t : BurnerTransfer) (b : Beat) (d : Device) : Device :=
  { d with port := { transfer := some { t with next := t.next + 1, inPart := t.inPart.tail }, brd := b } }

/-- The effect of READ_BEAT_DATA (R3, R12). -/
def returnBeat (b : Beat) (d : Device) : Device :=
  match d.port.transfer with
  | none => d
  | some t =>
    let r := passThrough (t.inPart.head?.getD none) b d
    giveBeat t r.2 r.1

/-- READ_BEAT_DATA. -/
def execReadBeatData (data : Beat) (s : State) : Host.Outcome State Fault Refusal :=
  if readBeatDue s.toDevice then .next (s.onDevice (returnBeat data)) else .fault .noReadBeat

/-! ### MEMORY_TRANSFER_COMPLETE (R1, R8, R10, R13, R106 to R119) -/

/-- The burner's transfer context after its memory-side transfer has completed: gone with every beat delivered, HELD with a hold
asked for at the next beat, else WAITING for the remainder (R1, R8, R10). -/
def afterPart (t : BurnerTransfer) : Option BurnerTransfer :=
  if t.beats ≤ t.next then none
  else if t.holdAsked then some { t with mode := .held, holdAsked := false, inPart := [] }
  else some { t with mode := .waiting, inPart := [] }

/-- The burner's memory-side transfer has completed (R1). -/
def completeBurner (d : Device) : Device :=
  setTransfer (d.port.transfer.bind afterPart) d

/-- A memory-side transfer has completed: the memory side is free, what follows from the completion is done, and the next grant
is made (R13). So the engine begins line r or takes its next span before a read that its completion released, or that waited, is formed
(R11, R115). That order: DESIGN CHOICE (notes/assumptions/32.md). -/
def completeTransfer (m : MemTransfer) (data : List Beat) (d : Device) : Device :=
  let d := setBus none d
  arbitrate (if m.byEngine then (if m.orphan then d else engineCompletion m data d) else completeBurner d)

/-- Beats of the burner's memory-side transfer have not been accepted or returned yet (R2, R3). -/
def beatsOutstanding (m : MemTransfer) (d : Device) : Bool :=
  !m.byEngine && d.port.transfer.elim false fun t =>
    t.mode == .forwarding && (if t.write then t.next < t.beats else !t.inPart.isEmpty)

/-- How many beats of data a completion brings: those of an engine fetch. -/
def fetchedBeats (m : MemTransfer) : Nat := if m.byEngine && !m.write then m.beats else 0

/-- MEMORY_TRANSFER_COMPLETE. -/
def execMemoryTransferComplete (data : List Beat) (s : State) : Host.Outcome State Fault Refusal :=
  match s.arbiter.onBus with
  | none => .fault .noTransfer
  | some m =>
    if beatsOutstanding m s.toDevice then .fault .beatsOutstanding
    else if data.length ≠ fetchedBeats m then .fault .wrongFetchLength
    else .next (s.onDevice (completeTransfer m data))

/-! ### HOLD_EXPIRY (R131, R134) -/

/-- The effect of HOLD_EXPIRY: the hold expires and the port's claim for the remainder goes to the arbiter; with no hold
waiting it finds none and does nothing (R131, R134). -/
def expireAndGrant (d : Device) : Device := arbitrate (expireHold d)

/-- HOLD_EXPIRY. -/
def execHoldExpiry (s : State) : Host.Outcome State Fault Refusal :=
  .next (if s.delivery.held.isSome then s.onDevice expireAndGrant else s)

end Sys2Proof.Machine
end

