-- ==== Sys2Proof/Machine/Requests.lean ====
section
/-! DEFINITION. The maintenance link (09): transactions (R169 to R172), and the meanings of TRANSACTION_BEGIN, TRANSACTION_END,
and of every request but ARM and END RUN (R173 to R177). -/

namespace Sys2Proof.Machine

/-! ### Transactions (R169 to R172) -/

/-- Put a link line. -/
def setLine (l : LinkLine) (d : Device) : Device :=
  { d with link := { d.link with line := l } }

/-- Put REQUEST_BAD (R171). -/
def setRequestBad (b : Bool) (d : Device) : Device :=
  { d with link := { d.link with requestBad := b } }

/-- The transaction's phase and reply are put (R172). -/
def putReply (p : TransactionPhase) (bytes : List Byte) (d : Device) : Device :=
  match d.link.line with
  | .active t => setLine (.active { t with phase := p, reply := bytes }) d
  | .high => d
  | .ignored => d

/-- A good request has been taken: REQUEST_BAD is cleared and the reply formed (R171, R172). -/
def goodRequest (bytes : List Byte) (d : Device) : Device :=
  setRequestBad false (putReply .taken bytes d)

/-- A bad request has been taken: REQUEST_BAD is set and LDO gives 0x00 from byte 2 on (R171). -/
def badRequest (d : Device) : Device :=
  setRequestBad true (putReply .taken [] d)

/-- The payload length of an input request (section 9.6). -/
def payloadLength : InputRequest → Nat
  | .writeSettings => Config.settingsLength
  | .clearAttention => Config.attentionLength
  | .setAttentionEnable => Config.attentionLength

/-- WRITE SETTINGS is stored: the staged copy and the settings-pending flag (R164, R173). -/
def storeSettings (p : List Byte) (d : Device) : Device :=
  { d with control := { d.control with staged := parseSettings p, settingsPending := true } }

/-- The ten cause positions of a two-byte attention payload; the others name no cause (R177, section 10.5). -/
def causePositions (p : List Byte) : BitVec 10 := (payload16 p 0).setWidth 10

/-- CLEAR ATTENTION is stored (R177). -/
def storeClear (p : List Byte) (d : Device) : Device :=
  { d with link := { d.link with causes := d.link.causes &&& ~~~ causePositions p } }

/-- SET ATTENTION ENABLE is stored (R177). -/
def storeEnables (p : List Byte) (d : Device) : Device :=
  { d with link := { d.link with enables := causePositions p } }

/-- An input request's payload is stored (R169). -/
def storePayload (r : InputRequest) (p : List Byte) (d : Device) : Device :=
  match r with
  | .writeSettings => storeSettings p d
  | .clearAttention => storeClear p d
  | .setAttentionEnable => storeEnables p d

/-- The payload bytes of an input request clocked so far: stored with the last byte of the payload, bytes beyond it ignored;
short of it the transaction waits for the rest (R169, R171, R172). -/
def feedPayload (r : InputRequest) (got : List Byte) (d : Device) : Device :=
  if got.length < payloadLength r then putReply (.collecting r got) [] d
  else goodRequest [] (storePayload r (got.take (payloadLength r)) d)

/-- A request code and argument have been clocked, and the bytes after them. With LSEL high, or low and ignored since a reset,
nothing is clocked (R169, R179). In a transaction before its request, the status word has been clocked out in full, LOCK_HELD
is reloaded (R24), and the request is taken. In an input request short of its payload the bytes belong to the payload; in any
other the bytes after the request are ignored (R169, R172). -/
def clockRequest (code arg : Byte) (payload : List Byte) (act : Device → Device) (d : Device) : Device :=
  match d.link.line with
  | .high => d
  | .ignored => d
  | .active t =>
    match t.phase with
    | .awaiting => act (reloadLockHeld t d)
    | .collecting r got => feedPayload r (got ++ code :: arg :: payload) d
    | .taken => d
    | .reporting => d

/-! ### What LDO gives (R169, R171, R172) -/

/-- Byte k of a transaction out of the part: the high and the low byte of the status word, then the reply, and 0x00 where there is
none: past the reply's length, during an input request, after a bad request and without a request (R169, R171, R172). -/
def ldoByte (t : Transaction) (k : Nat) : Byte :=
  match k with
  | 0 => t.status.extractLsb' 8 8
  | 1 => t.status.extractLsb' 0 8
  | n + 2 => t.reply.getD n 0

/-- Pin LDO as the byte it gives as byte k of a transaction: none while it is high-impedance, LSEL being high, or low and
ignored since a reset (R169, R179). -/
def ldoOut (l : LinkLine) (k : Nat) : Option Byte :=
  match l with
  | .high => none
  | .ignored => none
  | .active t => some (ldoByte t k)

/-! ### TRANSACTION_BEGIN and TRANSACTION_END (R169 to R171) -/

/-- The effect of TRANSACTION_BEGIN: the status word is captured (R169, R170). -/
def beginTransaction (d : Device) : Device :=
  setLine (.active { status := statusWord d, lockFell := false, phase := .awaiting, reply := [] }) d

/-- TRANSACTION_BEGIN. -/
def execTransactionBegin (s : State) : Host.Outcome State Fault Refusal :=
  match s.link.line with
  | .high => .next (s.onDevice beginTransaction)
  | .ignored => .fault .selectLow
  | .active _ => .fault .selectLow

/-- An input request short of its payload is in progress (R171). -/
def shortInput : LinkLine → Bool
  | .active { phase := .collecting _ _, .. } => true
  | _ => false

/-- The effect of TRANSACTION_END: a short input request's payload is discarded and REQUEST_BAD set; an unfinished READ REPORT pops
nothing (R171, R174). -/
def endTransaction (d : Device) : Device :=
  setLine .high (if shortInput d.link.line then setRequestBad true d else d)

/-- TRANSACTION_END. -/
def execTransactionEnd (s : State) : Host.Outcome State Fault Refusal :=
  match s.link.line with
  | .high => .fault .selectHigh
  | .ignored => .next (s.onDevice endTransaction)
  | .active _ => .next (s.onDevice endTransaction)

/-! ### IDENTIFY and settings (R173) -/

/-- The IDENTIFY reply (section 10.5). -/
def identifyBytes : List Byte :=
  [Config.vendorCode, Config.partCode, Config.revision] ++ nat16 Config.poolSize
    ++ [byteOf Config.spanLimit, byteOf Config.maxSlots, 0]

/-- IDENTIFY (R173). -/
def execIdentify (arg : Byte) (s : State) : Host.Outcome State Fault Refusal :=
  .next (s.onDevice (clockRequest 0x01 arg [] (goodRequest identifyBytes)))

/-- What READ SETTINGS does at its take (R173). -/
def readSettings (arg : Byte) (d : Device) : Device :=
  if arg = 0 then goodRequest (stagedBytes d.control.staged d.control.refusal) d
  else if arg = 1 then goodRequest (activeBytes d.control.geometry d.control.repair) d
  else badRequest d

/-- READ_SETTINGS (R171, R173, R181). -/
def execReadSettings (arg : Byte) (s : State) : Host.Outcome State Fault Refusal :=
  .next (s.onDevice (clockRequest 0x02 arg [] (readSettings arg)))

/-- WRITE_SETTINGS (R164, R173, R181). -/
def execWriteSettings (arg : Byte) (payload : List Byte) (s : State) : Host.Outcome State Fault Refusal :=
  .next (s.onDevice (clockRequest 0x03 arg payload (feedPayload .writeSettings payload)))

/-! ### Reports (R174) -/

/-- What READ REPORT does at its take: the head of the queue, or an all-zero record (R174, section 10.4). -/
def readReport (d : Device) : Device :=
  match d.reports.queue with
  | [] => goodRequest (List.replicate 36 0) d
  | r :: _ => setRequestBad false (putReply .reporting (reportBytes r) d)

/-- READ_REPORT (R174). -/
def execReadReport (arg : Byte) (s : State) : Host.Outcome State Fault Refusal :=
  .next (s.onDevice (clockRequest 0x06 arg [] readReport))

/-- The effect of REPORT_POP: the returned record leaves the queue. Where no record is being returned, the 36th byte of a
READ REPORT taken with an empty queue among them, nothing is popped (R174). -/
def popReport (d : Device) : Device :=
  match d.link.line with
  | .active t =>
    match t.phase with
    | .reporting =>
      putReply .taken t.reply { d with reports := { d.reports with queue := d.reports.queue.tail } }
    | .awaiting => d
    | .taken => d
    | .collecting _ _ => d
  | .high => d
  | .ignored => d

/-- REPORT_POP (R174). -/
def execReportPop (s : State) : Host.Outcome State Fault Refusal :=
  .next (s.onDevice popReport)

/-! ### Counters and quality (R175) -/

/-- The counter block (section 10.5). -/
def counterBytes (n : Counters) : List Byte := (counterList n).flatMap nat32

/-- What READ COUNTERS does at its take: the snapshot, and with the lowest argument bit the clear after it (R158, R175). -/
def readCounters (arg : Byte) (d : Device) : Device :=
  let bytes := counterBytes d.reports.counters
  goodRequest bytes (if arg.getLsbD 0 then { d with reports := { d.reports with counters := .zero } } else d)

/-- READ_COUNTERS (R158, R175). -/
def execReadCounters (arg : Byte) (s : State) : Host.Outcome State Fault Refusal :=
  .next (s.onDevice (clockRequest 0x07 arg [] (readCounters arg)))

/-- The READ QUALITY reply (section 10.5). -/
def qualityBytes (d : Device) : List Byte :=
  [byteOf d.reports.runQuality, byteOf d.reports.worstQuality, byteOf d.reports.lastQuality, byteOf d.reports.recovery]
    ++ field32 d.ring.drainFrame

/-- What READ QUALITY does at its take: the reply, and WQ back to 7 (R153, R175). -/
def readQuality (d : Device) : Device :=
  goodRequest (qualityBytes d) { d with reports := { d.reports with worstQuality := 7 } }

/-- READ_QUALITY (R153, R175). -/
def execReadQuality (arg : Byte) (s : State) : Host.Outcome State Fault Refusal :=
  .next (s.onDevice (clockRequest 0x08 arg [] readQuality))

/-! ### The map query (R79 to R81, R176) -/

/-- Put the snapshot holder. -/
def setHolder (h : Holder) (d : Device) : Device :=
  { d with link := { d.link with holder := h } }

/-- The empty snapshot of a slot number (R81). -/
def emptySnapshot (s : Nat) (d : Device) : Snapshot :=
  { slot := s, state := .empty, flags := .clear, frame := 0, spans := [], free := freeRecords d.map }

/-- The snapshot of slot s as the map and the slot table stand (R79, R80). -/
def takeSnapshot (s : Nat) (d : Device) : Snapshot :=
  let e := slotAt d s
  { slot := s, state := e.state, flags := e.flags, frame := e.frame, spans := spansOf d s, free := freeRecords d.map }

/-- What MAP QUERY does at its take (R79, R81, R176). -/
def queryMap (arg : Byte) (d : Device) : Device :=
  let s := arg.toNat
  goodRequest []
    (if d.control.run = .off ∨ d.control.geometry.slots ≤ s then setHolder (.ready (emptySnapshot s d)) d
     else setHolder (.gathering s) d)

/-- MAP_QUERY (R176). -/
def execMapQuery (arg : Byte) (s : State) : Host.Outcome State Fault Refusal :=
  .next (s.onDevice (clockRequest 0x09 arg [] (queryMap arg)))

/-- The effect of SNAPSHOT_TAKEN: a GATHERING holder becomes READY with the copy; with no query outstanding there is nothing to
copy (R79). -/
def fillHolder (d : Device) : Device :=
  match d.link.holder with
  | .gathering s => setHolder (.ready (takeSnapshot s d)) d
  | .none => d
  | .ready _ => d

/-- SNAPSHOT_TAKEN (R79). -/
def execSnapshotTaken (s : State) : Host.Outcome State Fault Refusal :=
  .next (s.onDevice fillHolder)

/-- The code of a slot state (section 10.6). -/
def slotStateCode : SlotState → Byte
  | .empty => 0
  | .filling => 1
  | .filled => 2
  | .draining => 3
  | .drained => 4

/-- The code of a span state (section 10.6). -/
def spanStateCode : SpanState → Byte
  | .waiting => 0
  | .queued => 1
  | .active => 2
  | .done => 3
  | .abandoned => 4

/-- A span entry of the MAP FETCH reply (section 10.6). -/
def spanBytes (p : Span) : List Byte :=
  nat16 p.first ++ nat16 p.last ++ [causesByte p.causes, spanStateCode p.state] ++ nat16 p.absorbed ++ nat16 p.progress
    ++ nat16 (talliesSum p.tallies)

/-- The 300 bytes of a READY snapshot: the header, its span entries, and zeros after the last span (R80, section 10.6). -/
def snapshotBytes (n : Snapshot) : List Byte :=
  let entries := n.spans.flatMap spanBytes
  [1, byteOf n.slot, slotStateCode n.state, flagsByte n.flags] ++ field32 n.frame
    ++ [byteOf n.spans.length, 0] ++ nat16 n.free ++ entries ++ List.replicate (288 - entries.length) 0

/-- The MAP FETCH reply: a READY holder's snapshot; from a GATHERING or NONE holder all bytes zero (R80, R176). -/
def holderBytes : Holder → List Byte
  | .ready n => snapshotBytes n
  | .gathering _ => List.replicate 300 0
  | .none => List.replicate 300 0

/-- What MAP FETCH does at its take (R176). -/
def fetchMap (d : Device) : Device := goodRequest (holderBytes d.link.holder) d

/-- MAP_FETCH (R176). -/
def execMapFetch (arg : Byte) (s : State) : Host.Outcome State Fault Refusal :=
  .next (s.onDevice (clockRequest 0x0A arg [] fetchMap))

/-! ### Attention (R177, R178) -/

/-- A ten-bit attention field as its two bytes; bits 10 to 15 read 0 (section 10.5). -/
def attentionBytes (v : BitVec 10) : List Byte := field16 (v.setWidth 16)

/-- What READ ATTENTION does at its take (R177). -/
def readAttention (d : Device) : Device :=
  goodRequest (attentionBytes d.link.causes ++ attentionBytes d.link.enables) d

/-- READ_ATTENTION (R177). -/
def execReadAttention (arg : Byte) (s : State) : Host.Outcome State Fault Refusal :=
  .next (s.onDevice (clockRequest 0x0B arg [] readAttention))

/-- CLEAR_ATTENTION (R177, R178). -/
def execClearAttention (arg : Byte) (payload : List Byte) (s : State) : Host.Outcome State Fault Refusal :=
  .next (s.onDevice (clockRequest 0x0C arg payload (feedPayload .clearAttention payload)))

/-- SET_ATTENTION_ENABLE (R177, R178). -/
def execSetAttentionEnable (arg : Byte) (payload : List Byte) (s : State) : Host.Outcome State Fault Refusal :=
  .next (s.onDevice (clockRequest 0x0D arg payload (feedPayload .setAttentionEnable payload)))

/-! ### An unknown request code (R171) -/

/-- UNKNOWN_REQUEST_CODE (R171). A code that the table lists makes no such event. -/
def execUnknownRequestCode (code arg : Byte) (s : State) : Host.Outcome State Fault Refusal :=
  if knownCode code then .refused .codeIsKnown
  else .next (s.onDevice (clockRequest code arg [] badRequest))

end Sys2Proof.Machine
end

