-- ==== Sys2Proof/Machine/RunControl.lean ====
section
/-! DEFINITION. ARM (R165 to R167), END RUN (R168) and reset (R179) with what each block does at them (R16, R17, R41 to R43, R59,
R60, R77, R81, R122, R123, R143, R144, R159, R160), and the tick of an idle queue. -/

namespace Sys2Proof.Machine

/-! ### ARM (R165 to R167) -/

/-- The effects of an accepted ARM (R166): the active copy, the ring, the map, the repair order, the report unit and the run
state. -/
def armPart (d : Device) : Device :=
  let g := stagedGeometry d.control.staged
  { d with
    control := { d.control with run := .armed, geometry := g, repair := clampRepair d.control.staged,
                                settingsPending := false, refusal := 0 },
    ring := Ring.start g.slots,
    map := DamageMap.start g.slots,
    engine := { d.engine with order := [] },
    reports := Reports.start }

/-- A refused ARM keeps everything but the reason, and raises ARM_REFUSED (R167). -/
def refuseArm (reason : Nat) (d : Device) : Device :=
  raise .armRefused { d with control := { d.control with refusal := reason } }

/-- What ARM does at its take (R165 to R167, R171). -/
def armRequest (d : Device) : Device :=
  if d.control.run = .off then
    let reason := geometryRefusal (stagedGeometry d.control.staged)
    goodRequest [] (if reason = 0 then armPart d else refuseArm reason d)
  else badRequest d

/-- ARM. -/
def execArm (arg : Byte) (s : State) : Host.Outcome State Fault Refusal :=
  .next (s.onDevice (clockRequest 0x04 arg [] armRequest))

/-! ### END RUN (R168) -/

/-- A held read at END RUN: its tick count is charged, its line becomes AS STORED, counted as such a decision, and the held-read
context is emptied (R143). DEDUCED (notes/assumptions/17.md). -/
def endHold (d : Device) : Device :=
  match d.delivery.held, d.delivery.record with
  | some h, some r => dropHold (settleLine r.slot h.line .asStored (chargeHold h.ticks d))
  | _, _ => d

/-- The rest of a burner transfer in progress is forwarded unchanged, and beats on their way pass without treatment; a held read
is released (R16, R17). With its run `ended` the rest is outside the ring from then on (R60); END RUN in ARMED changes nothing in that
(R4). DEDUCED (notes/assumptions/9.md). -/
def unchangedRest (ended : Bool) (t : BurnerTransfer) : BurnerTransfer :=
  { releaseTransfer t with unchanged := true, outside := t.outside || ended, inPart := t.inPart.map fun _ => none }

/-- The port at END RUN and reset (R16, R17). -/
def freePort (ended : Bool) (d : Device) : Device :=
  { d with port := { d.port with transfer := d.port.transfer.map (unchangedRest ended) },
           arbiter := { d.arbiter with passOver := false } }

/-- A map query still GATHERING completes with the empty snapshot (R81). -/
def endQuery (d : Device) : Device :=
  match d.link.holder with
  | .gathering s => setHolder (.ready (emptySnapshot s d)) d
  | .none => d
  | .ready _ => d

/-- The slot table, the map and the line checker return to their starting values, the order is empty and LOCK_HELD falls (R42,
R60, R77, R122). -/
def clearRun (d : Device) : Device :=
  let g := d.control.geometry
  fallLockHeld { d with ring := Ring.start g.slots, checker := Checker.start g.lines, map := DamageMap.start g.slots,
                        engine := Engine.start, delivery := Delivery.start }

/-- The end of a run, the blocks in the order of R168; the released remainder is then granted if the memory side is free (R16). -/
def endRunPart (d : Device) : Device :=
  let ended := d.control.run == .running
  let d := endHold (handOverClosing d)
  let d := abortJob d
  let d := clearRun (handOverDraining .cutOff d)
  let d := endQuery d
  arbitrate (freePort ended { d with control := { d.control with run := .off } })

/-- What END RUN does at its take: a good request in every run state, without effect while OFF (R168, R171). -/
def endRunRequest (d : Device) : Device :=
  goodRequest [] (if d.control.run = .off then d else endRunPart d)

/-- END_RUN. -/
def execEndRun (arg : Byte) (s : State) : Host.Outcome State Fault Refusal :=
  .next (s.onDevice (clockRequest 0x05 arg [] endRunRequest))

/-! ### RESET (R179) -/

/-- The link line after a reset: with LSEL still low it is ignored until LSEL rises (R179). -/
def lineAfterReset : LinkLine → LinkLine
  | .high => .high
  | .ignored => .ignored
  | .active _ => .ignored

/-- The effect of reset: every block at its reset value, the transfers in progress completing unchanged (R17, R41, R59, R77, R81,
R123, R144, R159, R179). -/
def resetPart (d : Device) : Device :=
  let r : Device :=
    { State.reset.toDevice with
      port := d.port
      arbiter := { onBus := d.arbiter.onBus.map orphanTransfer, passOver := false }
      link := { Link.start with line := lineAfterReset d.link.line } }
  arbitrate (freePort true r)

/-- RESET. -/
def execReset (s : State) : Host.Outcome State Fault Refusal :=
  .next (s.onDevice resetPart)

/-! ### An idle queue -/

/-- With no command waiting, one microsecond passes: a waiting hold ticks (R131), and expires at its budget (R134). DESIGN CHOICE
(notes/assumptions/5.md). -/
def tick (d : Device) : Device :=
  if d.delivery.held.isSome then arbitrate (tickHold d) else d

end Sys2Proof.Machine
end

