-- ==== Sys2Proof/Machine/Dispatch.lean ====
section
/-! DEFINITION. One arm per command of spec/opcode_table.json, in the table's order. -/

namespace Sys2Proof.Machine

def exec (i : Instr) (s : State) : Host.Outcome State Fault Refusal :=
  match i with
  | .burnerTransferStart write addr blen => Sys2Proof.Machine.execBurnerTransferStart write addr blen s
  | .writeBeatAccepted data enables => Sys2Proof.Machine.execWriteBeatAccepted data enables s
  | .readBeatData data => Sys2Proof.Machine.execReadBeatData data s
  | .memoryTransferComplete data => Sys2Proof.Machine.execMemoryTransferComplete data s
  | .holdExpiry => Sys2Proof.Machine.execHoldExpiry s
  | .reset => Sys2Proof.Machine.execReset s
  | .transactionBegin => Sys2Proof.Machine.execTransactionBegin s
  | .transactionEnd => Sys2Proof.Machine.execTransactionEnd s
  | .identify arg => Sys2Proof.Machine.execIdentify arg s
  | .readSettings arg => Sys2Proof.Machine.execReadSettings arg s
  | .writeSettings arg payload => Sys2Proof.Machine.execWriteSettings arg payload s
  | .arm arg => Sys2Proof.Machine.execArm arg s
  | .endRun arg => Sys2Proof.Machine.execEndRun arg s
  | .readReport arg => Sys2Proof.Machine.execReadReport arg s
  | .reportPop => Sys2Proof.Machine.execReportPop s
  | .readCounters arg => Sys2Proof.Machine.execReadCounters arg s
  | .readQuality arg => Sys2Proof.Machine.execReadQuality arg s
  | .mapQuery arg => Sys2Proof.Machine.execMapQuery arg s
  | .snapshotTaken => Sys2Proof.Machine.execSnapshotTaken s
  | .mapFetch arg => Sys2Proof.Machine.execMapFetch arg s
  | .readAttention arg => Sys2Proof.Machine.execReadAttention arg s
  | .clearAttention arg payload => Sys2Proof.Machine.execClearAttention arg payload s
  | .setAttentionEnable arg payload => Sys2Proof.Machine.execSetAttentionEnable arg payload s
  | .unknownRequestCode code arg => Sys2Proof.Machine.execUnknownRequestCode code arg s

end Sys2Proof.Machine
end

