-- ==== Sys2Proof/Safety.lean ====
section
/-! DEFINITION. What a safe run is, and the conditions on a state that every step keeps: the span lists of R63, the ranges of
R162 and of the report unit (08), the arbiter's bookkeeping of R13, the ring tracker's of R22, and the hold's of R131 to R135.
Each condition is about all states; none is built into the types. -/

namespace Sys2Proof.Machine

/-! ### Runs -/

/-- Commands join the queue at its end, in the order the parties give them. -/
def State.offer (s : State) (cs : List Instr) : State :=
  { s with pending := s.pending ++ cs }

/-- The states of a run: reset, the next state of a step, and a state in which commands have been offered. -/
inductive Reachable : State → Prop
  | reset : Reachable State.reset
  | offered {s : State} (cs : List Instr) : Reachable s → Reachable (s.offer cs)
  | stepped {s t : State} : Reachable s → step s = .next t → Reachable t

/-- The step from s neither faults nor is refused. -/
def State.goesOn (s : State) : Prop := ∃ t, step s = .next t

/-- What the machine does next: it runs a command, or with no command waiting it takes an idle step. -/
def moves : Option Instr → State → State → Prop
  | some c, s, t => exec c s = .next t
  | none, s, t => s.pending = [] ∧ step s = .next t

/-- A condition on the part is kept by a step: whatever state meets it, a next state meets it. -/
def KeptByStep (inv : Device → Prop) : Prop :=
  ∀ s t : State, inv s.toDevice → step s = .next t → inv t.toDevice

/-! ### The damage map (R63) -/

/-- A slot's list as R63 has it: ascending, neither overlapping nor touching, at most 24 spans, each with its lines in
order; and in each span at least one line is no absorbed one (R61, R66). -/
def SpanListWf (l : List Span) : Prop :=
  l.Pairwise (fun p q => p.last + 1 < q.first) ∧ (∀ p ∈ l, p.first ≤ p.last ∧ p.absorbed ≤ p.last - p.first)
    ∧ l.length ≤ Config.spanLimit

/-- Every slot's list is as R63 has it, and at most 1024 records are in use (R61, R63). -/
def MapWf (m : DamageMap) : Prop :=
  (∀ l ∈ m.spans, SpanListWf l) ∧ usedRecords m ≤ Config.poolSize

/-! ### Settings (R162) -/

/-- Valid geometry: none of the eight checks of R165 fails. -/
structure GeometryValid (g : Geometry) : Prop where
  slots : 4 ≤ g.slots ∧ g.slots ≤ 64
  samples : 16 ≤ g.samples ∧ g.samples ≤ 4096 ∧ g.samples % 2 = 0
  linePitch : g.linePitch % 16 = 0 ∧ 2 * g.samples + 8 ≤ g.linePitch ∧ g.linePitch ≤ 16384
  lines : 8 ≤ g.lines ∧ g.lines ≤ 2048 ∧ (g.scan = .interleaved → g.lines % 2 = 0)
  slotPitch : g.slotPitch % 4096 = 0 ∧ g.lines * g.linePitch ≤ g.slotPitch
  base : g.base % 4096 = 0
  ring : g.base + g.slots * g.slotPitch ≤ 67108864
  range : g.lo < g.hi ∧ g.hi ≤ 1023

/-- The repair fields of the active copy lie in the ranges of R162. -/
structure RepairInRange (r : RepairSettings) : Prop where
  tolerance : r.tolerance ≤ 255
  reach : 1 ≤ r.reach ∧ r.reach ≤ 8
  tStill : r.tStill ≤ 1023
  tMove : r.tMove ≤ 1023
  wDefault : r.wDefault ≤ 16
  holdBudget : r.holdBudget ≤ 255
  holdAllowance : r.holdAllowance ≤ 65535
  urgency : r.urgency ≤ 7
  stationTag : r.stationTag ≤ 15
  weights : r.weights.g1 ≤ 15 ∧ r.weights.g2 ≤ 15 ∧ r.weights.g3 ≤ 15 ∧ r.weights.g4 ≤ 15 ∧ r.weights.g5 ≤ 15
    ∧ r.weights.g6 ≤ 15
  thresholds : ∀ t ∈ thresholdList r.thresholds, t ≤ 65535
  recovery : 1 ≤ r.recovery ∧ r.recovery ≤ 255
  alarm : r.alarm ≤ 7

/-- The active copy as R162 has it: the geometry is all zero, the part then being OFF, or valid; the repair fields and the
refusal reason are in range. -/
def SettingsWf (c : Control) : Prop :=
  (c.geometry = Geometry.default ∧ c.run = .off ∨ GeometryValid c.geometry) ∧ RepairInRange c.repair ∧ c.refusal ≤ 8

/-! ### The report unit (08) -/

/-- The report unit's quantities lie in their ranges (R151, R153, R154, R155, R157). -/
def ReportsWf (r : Reports) : Prop :=
  r.queue.length ≤ 32 ∧ r.gap ≤ 255 ∧ r.runQuality ≤ 7 ∧ r.worstQuality ≤ 7 ∧ r.lastQuality ≤ 7 ∧ r.recovery ≤ 254
    ∧ ∀ n ∈ counterList r.counters, n ≤ 4294967295

/-- The settings and the report unit are in range. The recovery count stays in range because the recovery frames setting
does. -/
def RangesWf (d : Device) : Prop := SettingsWf d.control ∧ ReportsWf d.reports

/-! ### The memory side (R1, R13) -/

/-- The bookkeeping of the memory side: the port is FORWARDING exactly while a burner transfer is on it; no claim waits while
it is FREE; the engine claims only for its job, and not while a transfer of that job is on the memory side (R1, R13, R119). -/
structure BusWf (d : Device) : Prop where
  forwarding : ∀ t, d.port.transfer = some t → t.mode = .forwarding →
    ∃ m, d.arbiter.onBus = some m ∧ m.byEngine = false
  burner : ∀ m, d.arbiter.onBus = some m → m.byEngine = false →
    ∃ t, d.port.transfer = some t ∧ t.mode = .forwarding
  free : d.arbiter.onBus = none → d.engine.claiming = false ∧ portState d ≠ .waiting
  claim : d.engine.claiming = true → d.engine.job ≠ none
  engine : ∀ m, d.arbiter.onBus = some m → m.byEngine = true → m.orphan = false →
    d.engine.claiming = false ∧ d.engine.job ≠ none

/-! ### The ring tracker (R20, R22) -/

/-- The ring tracker's fields agree with each other and with the delivery unit's record (R20, R22, R23, R124). -/
structure RingWf (d : Device) : Prop where
  entries : d.control.run ≠ .off → d.ring.slots.length = d.control.geometry.slots
  idle : d.control.run ≠ .running →
    (∀ e ∈ d.ring.slots, e.state = .empty) ∧ d.ring.lock = none ∧ d.ring.fillOpen = false ∧ d.ring.draining = none
  locked : d.control.run = .running → d.ring.lock ≠ none
  seeking : d.ring.lock = some .seeking → d.ring.fillOpen = false
  filled : d.ring.fillOpen = true → d.ring.fillSlot ≠ none
  filling : ∀ s, (slotAt d s).state = .filling → d.ring.fillSlot = some s ∧ d.ring.fillOpen = true
  draining : ∀ s, (slotAt d s).state = .draining ↔ d.ring.draining = some s
  record : d.delivery.record.map DrainRecord.slot = d.ring.draining

/-! ### Holds (R10, R131 to R135) -/

/-- The figures of a drain record: what has been held and what is left make the allowance (R124, R135). -/
def AllowanceKept (r : DrainRecord) : Prop := r.holdTime + r.allowanceLeft = r.holdAllowance

/-- The port waits for the end of a hold: it is HELD, or it forwards the part before the held beat (R10). -/
def awaitsRelease (t : BurnerTransfer) : Prop :=
  t.mode = .held ∨ t.mode = .forwarding ∧ t.holdAsked = true

/-- The hold's bookkeeping (R10, R124, R125, R131, R132, R135): allowances are kept; a record belongs to a run and has one entry
a line; a line is HELD exactly as the held-read context says; a waiting hold has ticks below a budget that the allowance can
pay, and a burner read that waits for it with the held beat still to come; without a hold the port is not held. And no transfer in a
run is one that the ring leaves out (R4, R23). -/
structure HoldWf (d : Device) : Prop where
  record : ∀ r, d.delivery.record = some r →
    AllowanceKept r ∧ d.control.run = .running ∧ r.lines.length = d.control.geometry.lines
  closing : ∀ r, d.delivery.closing = some r → AllowanceKept r
  formed : ∀ t, d.port.transfer = some t → t.write = false → t.unchanged = false → d.control.run = .running
  inRing : ∀ t, d.port.transfer = some t → d.control.run = .running → t.outside = false
  remains : ∀ t, d.port.transfer = some t → t.mode ≠ .forwarding → t.next < t.beats
  entry : ∀ r i, d.delivery.record = some r → entryOf r i = .held → ∃ h, d.delivery.held = some h ∧ h.line = i
  held : ∀ h, d.delivery.held = some h → ∃ r t, d.delivery.record = some r ∧ d.port.transfer = some t
    ∧ h.ticks < r.holdBudget ∧ r.holdBudget ≤ r.allowanceLeft ∧ t.write = false ∧ t.next + t.inPart.length < t.beats
    ∧ awaitsRelease t
  released : d.delivery.held = none → ∀ t, d.port.transfer = some t → ¬ awaitsRelease t

/-- The memory side's and the hold's bookkeeping together. -/
def BusHoldWf (d : Device) : Prop := BusWf d ∧ HoldWf d

/-! ### Terms of the claims about requests (09) -/

/-- A transaction stands before its request: byte 1 has not been clocked yet (R169). -/
def awaitsRequest (s : State) (t : Transaction) : Prop :=
  s.link.line = .active t ∧ t.phase = .awaiting

/-- LOCK_HELD once a status word has been clocked out in full: LOCK as it stands, unless LOCK_HELD fell since the capture
(R24). -/
def lockHeldAfter (t : Transaction) (s : State) : Bool :=
  if t.lockFell then s.ring.lockHeld else s.control.run == .running && s.ring.lock == some .locked

/-- What every request does to the link at its take: LOCK_HELD is reloaded (R24), REQUEST_BAD put (R171), and the transaction
goes on in a phase with a reply from byte 2 (R172). Nothing else of the machine changes. -/
def afterTake (s : State) (t : Transaction) (bad : Bool) (phase : TransactionPhase) (reply : List Byte) : State :=
  { s with ring := { s.ring with lockHeld := lockHeldAfter t s },
           link := { s.link with line := .active { t with phase := phase, reply := reply }, requestBad := bad } }

/-- The eight geometry checks of R165 by their numbers. -/
def passesCheck (g : Geometry) : Nat → Prop
  | 1 => 4 ≤ g.slots ∧ g.slots ≤ 64
  | 2 => 16 ≤ g.samples ∧ g.samples ≤ 4096 ∧ g.samples % 2 = 0
  | 3 => g.linePitch % 16 = 0 ∧ 2 * g.samples + 8 ≤ g.linePitch ∧ g.linePitch ≤ 16384
  | 4 => 8 ≤ g.lines ∧ g.lines ≤ 2048 ∧ (g.scan = .interleaved → g.lines % 2 = 0)
  | 5 => g.slotPitch % 4096 = 0 ∧ g.lines * g.linePitch ≤ g.slotPitch
  | 6 => g.base % 4096 = 0
  | 7 => g.base + g.slots * g.slotPitch ≤ 67108864
  | 8 => g.lo < g.hi ∧ g.hi ≤ 1023
  | _ => True

/-- A request of the link, with the payload clocked after it, as a command. -/
def isRequest : Instr → Bool
  | .identify _ => true
  | .readSettings _ => true
  | .writeSettings _ _ => true
  | .arm _ => true
  | .endRun _ => true
  | .readReport _ => true
  | .readCounters _ => true
  | .readQuality _ => true
  | .mapQuery _ => true
  | .mapFetch _ => true
  | .readAttention _ => true
  | .clearAttention _ _ => true
  | .setAttentionEnable _ _ => true
  | .unknownRequestCode code _ => !knownCode code
  | .burnerTransferStart _ _ _ => false
  | .writeBeatAccepted _ _ => false
  | .readBeatData _ => false
  | .memoryTransferComplete _ => false
  | .holdExpiry => false
  | .reset => false
  | .transactionBegin => false
  | .transactionEnd => false
  | .reportPop => false
  | .snapshotTaken => false

/-- The bytes that a request command stands for: code, argument and the payload clocked after them (R169, section 9.6). -/
def requestBytes : Instr → List Byte
  | .identify arg => [0x01, arg]
  | .readSettings arg => [0x02, arg]
  | .writeSettings arg payload => 0x03 :: arg :: payload
  | .arm arg => [0x04, arg]
  | .endRun arg => [0x05, arg]
  | .readReport arg => [0x06, arg]
  | .readCounters arg => [0x07, arg]
  | .readQuality arg => [0x08, arg]
  | .mapQuery arg => [0x09, arg]
  | .mapFetch arg => [0x0A, arg]
  | .readAttention arg => [0x0B, arg]
  | .clearAttention arg payload => 0x0C :: arg :: payload
  | .setAttentionEnable arg payload => 0x0D :: arg :: payload
  | .unknownRequestCode code arg => [code, arg]
  | .burnerTransferStart _ _ _ => []
  | .writeBeatAccepted _ _ => []
  | .readBeatData _ => []
  | .memoryTransferComplete _ => []
  | .holdExpiry => []
  | .reset => []
  | .transactionBegin => []
  | .transactionEnd => []
  | .reportPop => []
  | .snapshotTaken => []

/-- Bytes of an input request's payload are being clocked (R169). -/
def collects (s : State) : Prop :=
  ∃ t r got, s.link.line = .active t ∧ t.phase = .collecting r got

/-! ### Terms of the claims about the bus (01) -/

/-- The burner transfer as a whole, or what is left of it from beat `next` on, as one memory-side transfer (R2, R4). -/
def forwarded (t : BurnerTransfer) : MemTransfer :=
  { byEngine := false, write := t.write, addr := t.addr + 4 * t.next, beats := t.beats - t.next, lanes := [],
    orphan := false }

/-- The context of a burner transfer that begins in this state (R1, R4). -/
def begun (s : State) (write : Bool) (addr : BitVec 26) (blen : BitVec 4) (mode : TransferMode)
    (inPart : List (Option BeatTag)) : BurnerTransfer :=
  { write := write, addr := addr.toNat, beats := blen.toNat + 1, next := 0, mode := mode, written := [],
    unchanged := s.control.run != .running, outside := s.control.run == .off, holdAsked := false, inPart := inPart }

/-- The machine with another burner transfer context and memory-side transfer, and the pass-over mark clear (R13, R14). -/
def onMemorySide (s : State) (t : BurnerTransfer) (m : MemTransfer) : State :=
  { s with port := { s.port with transfer := some t }, arbiter := { onBus := some m, passOver := false } }

/-- The beats of line i from line offset q on, as the part's tags (R126). -/
def lineTags (i q n : Nat) : List (Option BeatTag) :=
  (List.range n).map fun k => some { line := i, offset := q + 4 * k }

/-- The memory-side address of the sample beat at line offset q of line i, by its entry: the source line's for a redirected line of a
slot that is neither STALE nor LOSSY, else the line's own (R127, R129). -/
def sampleAddress (d : Device) (r : DrainRecord) (i q : Nat) (e : LineEntry) : Nat :=
  if spoiled (slotAt d r.slot) then lineAddress d.control.geometry r.slot i q
  else
    match e with
    | .redirected x j => lineAddress d.control.geometry x j q
    | _ => lineAddress d.control.geometry r.slot i q

/-- Address a is line offset q of line i of the DRAINING slot, whose record is r, in a run of valid geometry (R6, R18). -/
structure AtDrainLine (s : State) (r : DrainRecord) (i q a : Nat) : Prop where
  running : s.control.run = .running ∧ GeometryValid s.control.geometry
  draining : s.delivery.record = some r ∧ s.ring.draining = some r.slot ∧ (slotAt s.toDevice r.slot).state = .draining
  line : r.slot < s.control.geometry.slots ∧ i < s.control.geometry.lines ∧ i < r.lines.length
  address : a = lineAddress s.control.geometry r.slot i q

/-- A burner read may begin there, with an idle port and the memory side free (R6, R7). -/
structure ReadsDrain (s : State) (r : DrainRecord) (i q : Nat) (a : BitVec 26) (n : BitVec 4) : Prop where
  fits : a.toNat % 4 = 0 ∧ a.toNat + 4 * (n.toNat + 1) ≤ 67108864
  idle : s.port.transfer = none ∧ s.arbiter.onBus = none
  place : AtDrainLine s r i q a.toNat

/-- A transfer of a line's stored read or write-back is completing with more of its run to issue; k is the job after it (R106). -/
structure RunGoesOn (s : State) (m : MemTransfer) (l : List Beat) (j k : Job) : Prop where
  bus : s.arbiter.onBus = some m ∧ m.byEngine = true ∧ m.orphan = false ∧ l.length = (if m.write then 0 else m.beats)
  job : s.engine.job = some j ∧ (j.phase = .storedRead ∨ j.phase = .writeBack) ∧ j.next + 4 * m.beats < j.stop
  after : k = { j with next := j.next + 4 * m.beats, fetched := j.fetched ++ beatsBytes l,
                       lanes := if m.write then j.lanes.drop (4 * m.beats) else j.lanes }

/-- The machine after a trailer beat of drain record r has passed as stored: counted unverified if told, the line context empty, and
`head` the line whose trailer bytes 0 to 3 this was, if it was counted (R139). -/
def trailerAsStored (s : State) (u : BurnerTransfer) (rest : List (Option BeatTag)) (r : DrainRecord) (b : Beat)
    (counted : Bool) (head : Option Nat) : State :=
  { s with
    port := { transfer := some { u with next := u.next + 1, inPart := rest }, brd := b }
    delivery := { s.delivery with
      record := some { r with signature := crc32 r.signature (beatBytes b), inFlight := r.inFlight - 1,
                              unverified := if counted then min (r.unverified + 1) 65535 else r.unverified }
      context := none, countedHead := head }
    reports := { s.reports with counters := { s.reports.counters with
      trailersUnverified := if counted then min (s.reports.counters.trailersUnverified + 1) 4294967295
        else s.reports.counters.trailersUnverified } } }

/-! ### Terms of the claims about the fill (02, 03, 04) -/

/-- A burner write has a beat to be accepted at line offset q of line i of slot k, in a run (R18, R25). -/
structure WritesLine (s : State) (u : BurnerTransfer) (k i q : Nat) : Prop where
  port : s.port.transfer = some u ∧ u.write = true ∧ u.mode = .forwarding ∧ u.next < u.beats
  running : s.control.run = .running
  place : nameAddress s.control.geometry (u.addr + 4 * u.next) = .line k i q

/-- The part after the port has accepted a write beat, before anything follows from it (R2). -/
def withBeatAccepted (s : State) (u : BurnerTransfer) (b : Beat) (e : Enables) : Device :=
  { s.toDevice with
    port := { s.port with transfer := some { u with next := u.next + 1, written := u.written ++ [(b, e)] } } }

/-- The part after slot k has been marked STALE, but for the job of a span of it (R33, R75). -/
def staleMarked (k : Nat) (d : Device) : Device :=
  { d with
    ring := { d.ring with slots := d.ring.slots.set k { slotAt d k with flags := { (slotAt d k).flags with stale := true } } }
    map := { d.map with spans := d.map.spans.set k ((spansOf d k).map fun p =>
      { p with state := if p.state = .done then .done else .abandoned }) }
    engine := { d.engine with order := d.engine.order.filter fun x => x.slot != k }
    reports := { d.reports with counters := { d.reports.counters with
      framesStale := min (d.reports.counters.framesStale + 1) 4294967295 } }
    link := { d.link with causes := d.link.causes ||| 0x100 } }

/-- The part after a lock loss (R24, R32). -/
def lockLost (d : Device) : Device :=
  { d with
    ring := { d.ring with lock := some .seeking, lockHeld := false }
    reports := { d.reports with counters := { d.reports.counters with
      lockLosses := min (d.reports.counters.lockLosses + 1) 4294967295 } }
    link := { d.link with causes := d.link.causes ||| 4, line := noteLockFall d.link.line } }

/-- The part after an abort of the job: a waiting claim is withdrawn, and the job's transfer on the memory side completes by itself
(R117 to R119). -/
def jobAborted (d : Device) : Device :=
  { d with
    engine := { d.engine with job := none, claiming := false }
    arbiter := { d.arbiter with onBus := d.arbiter.onBus.map fun m => { m with orphan := m.orphan || m.byEngine } } }

/-- The items of R69, each as its first and last line: the spans above line i, line i, and the spans below it. -/
def itemsAround (l : List Span) (i : Nat) : List (Nat × Nat) :=
  (l.filter fun p => decide (p.last < i)).map (fun p => (p.first, p.last)) ++ (i, i) ::
    (l.filter fun p => decide (i < p.first)).map fun p => (p.first, p.last)

/-- The lines strictly between item n and the next (R69). -/
def gapAfter (items : List (Nat × Nat)) (n : Nat) : Nat :=
  (items.getD (n + 1) (0, 0)).1 - (items.getD n (0, 0)).2 - 1

/-- The lines strictly between a span and line i, which lies outside it (R71). -/
def distanceTo (i : Nat) (p : Span) : Nat :=
  if p.last < i then i - p.last - 1 else p.first - i - 1

/-- A write's first beat stands at the base of slot k in a run, with full enables (R25). -/
structure BeginsSlot (s : State) (u : BurnerTransfer) (k : Nat) (e : Enables) : Prop where
  port : s.port.transfer = some u ∧ u.write = true ∧ u.mode = .forwarding ∧ u.next = 0 ∧ 0 < u.beats
  running : s.control.run = .running ∧ 2 ≤ s.control.geometry.slots ∧ 0 < s.control.geometry.lines ∧
    2 ≤ s.control.geometry.samples
  base : nameAddress s.control.geometry u.addr = .line k 0 0 ∧ k < s.ring.slots.length
  enables : e = ⟨true, true, true, true⟩

/-- A transfer of the job is completing with the last bytes of the run in hand, no burner transfer waiting (R106). -/
structure RunEnds (s : State) (m : MemTransfer) (l : List Beat) (j : Job) (p : Span) : Prop where
  bus : s.arbiter.onBus = some m ∧ m.byEngine = true ∧ m.orphan = false ∧ m.write = false ∧ l.length = m.beats
  job : s.engine.job = some j ∧ j.stop ≤ j.next + 4 * m.beats
  span : findSpan s.toDevice j.slot j.first = some p ∧ p.progress ≤ j.last ∧ j.slot < s.map.spans.length
  port : portState s.toDevice ≠ .waiting

/-- The machine with a job whose next transfer is on the memory side. -/
def withJobOnBus (s : State) (k : Job) : State :=
  { s with engine := { s.engine with job := some k, claiming := false },
           arbiter := { s.arbiter with onBus := some (engineTransfer k) } }

/-- The machine with the engine IDLE, the memory side FREE and the job's span DONE, its r moved on by `lines`. -/
def withSpanDone (s : State) (j : Job) (lines : Nat) : State :=
  { s with engine := { s.engine with job := none, claiming := false },
           arbiter := { s.arbiter with onBus := none },
           map := { s.map with spans := s.map.spans.set j.slot ((spansOf s.toDevice j.slot).map fun q =>
             if q.first = j.first then { q with state := .done, progress := q.progress + lines } else q) } }

/-- The machine with r of the job's span moved on by `lines`, and the line written back tallied and counted repaired if told
(R110, R115). -/
def withLinesPast (s : State) (j : Job) (lines : Nat) (counted : Bool) : State :=
  { s with
    map := { s.map with spans := s.map.spans.set j.slot ((spansOf s.toDevice j.slot).map fun q =>
      if q.first = j.first then
        { q with progress := q.progress + lines, tallies := if counted then addTally j.grade q.tallies else q.tallies }
      else q) }
    reports := { s.reports with counters := { s.reports.counters with
      linesRepaired := if counted then min (s.reports.counters.linesRepaired + 1) 4294967295
        else s.reports.counters.linesRepaired } } }

/-- A read beat at address a is no beat of the DRAINING slot and starts no drain (R6, R38). -/
def passesUntouched (d : Device) (a : Nat) : Prop :=
  ∀ s i q, nameAddress d.control.geometry a = .line s i q →
    d.ring.draining ≠ some s ∧ (i = 0 → q = 0 → (slotAt d s).state ≠ .filled ∧ (slotAt d s).state ≠ .filling)

end Sys2Proof.Machine
end

