-- ==== Sys2Proof/Certificates/Slice0/Obligations.lean ====
section
/-! DEFINITION. The statements about this model that the provers are to prove. Each says in its docstring which rules of the data
sheet it formalises, or on which of the model's own choices it rests. -/

open Sys2Proof Sys2Proof.Machine

/-! ### The queue, the tick, reset -/

/-- A step takes the command at the front of the queue and runs it with the queue's rest, and no command changes the queue behind
it. -/
def Obligations.StepTakesFrontCommand : Prop :=
  (∀ (c : Instr) (q : List Instr) (s : State), step { s with pending := c :: q } = exec c { s with pending := q }) ∧
  (∀ (c : Instr) (s t : State), exec c s = .next t → t.pending = s.pending)

/-- With no command waiting one tick of the 1 µs timebase passes (the model's choice, notes/assumptions/5.md): without a hold
nothing changes; a waiting hold's tick count rises by one and nothing else changes; the tick that makes it the budget does what
HOLD_EXPIRY does. -/
def Obligations.IdleStepTicksTheHold : Prop :=
  (∀ s : State, s.pending = [] → s.delivery.held = none → step s = .next s) ∧
  (∀ (s : State) (h : HeldRead) (r : DrainRecord), s.pending = [] → BusWf s.toDevice → s.delivery.held = some h →
    s.delivery.record = some r →
      (h.ticks + 1 < r.holdBudget →
        step s = .next { s with delivery := { s.delivery with held := some { h with ticks := h.ticks + 1 } } }) ∧
      (r.holdBudget ≤ h.ticks + 1 → step s = exec .holdExpiry s))

/-- The values after a power-on reset that R17, R41, R59, R77, R79, R123, R144, R159, R162 and R179 state. -/
def Obligations.ResetValues : Prop :=
  State.reset.control.run = .off ∧ State.reset.control.geometry =
    { base := 0, slots := 0, slotPitch := 0, lines := 0, samples := 0, linePitch := 0, scan := .progressive,
      order := .lowFirst, lo := 0, hi := 0 } ∧
  State.reset.control.repair =
    { tolerance := 4, reach := 4, tStill := 4, tMove := 40, wDefault := 8, holdBudget := 40, holdAllowance := 2000,
      urgency := 2, urgentPrecedence := true, stationTag := 0,
      weights := { g1 := 1, g2 := 2, g3 := 3, g4 := 4, g5 := 6, g6 := 12 }, recovery := 25, alarm := 3,
      thresholds := { t1 := 1, t2 := 8, t3 := 32, t4 := 96, t5 := 256, t6 := 640, t7 := 1536 } } ∧
  stagedGeometry State.reset.control.staged = State.reset.control.geometry ∧
  clampRepair State.reset.control.staged = State.reset.control.repair ∧
  State.reset.control.settingsPending = false ∧ State.reset.control.refusal = 0 ∧
  State.reset.port.transfer = none ∧ State.reset.arbiter = { onBus := none, passOver := false } ∧
  State.reset.ring = { slots := [], lock := none, lockHeld := false, fillSlot := none, fillOpen := false,
                       draining := none, nextFrame := 0, drainFrame := 0 } ∧
  State.reset.checker.context = none ∧ (∀ x ∈ State.reset.checker.table, x = .unwritten) ∧
  (∀ l ∈ State.reset.map.spans, l = []) ∧ freeRecords State.reset.map = 1024 ∧
  State.reset.engine = { order := [], job := none, claiming := false } ∧
  State.reset.delivery = { record := none, closing := none, held := none, context := none, countedHead := none } ∧
  State.reset.reports.queue = [] ∧ State.reset.reports.gap = 0 ∧ State.reset.reports.runQuality = 7 ∧
  State.reset.reports.worstQuality = 7 ∧ State.reset.reports.lastQuality = 7 ∧ State.reset.reports.recovery = 0 ∧
  counterList State.reset.reports.counters = List.replicate 16 0 ∧
  State.reset.link = { line := .high, requestBad := false, causes := 0, enables := 0, holder := .none } ∧
  atnAsserted State.reset.toDevice = false

/-- RESET in every state: each block is as after power-on, but for the bus. A transfer on the memory side completes, an engine's
without effect on the part; the rest of a burner transfer is forwarded unchanged as one transfer, at once if the memory side is
free; LSEL still low is ignored until it rises (R17, R179). That BRD keeps its value, and that the rest of a write stays outside the
ring, are the model's choices (notes/assumptions/2.md, 9.md). -/
def Obligations.ResetCommand : Prop :=
  ∀ s : State, ∃ t : State, exec .reset s = .next t ∧ t.pending = s.pending ∧
    t.control = State.reset.control ∧ t.ring = State.reset.ring ∧ t.checker = State.reset.checker ∧
    t.map = State.reset.map ∧ t.engine = State.reset.engine ∧ t.delivery = State.reset.delivery ∧
    t.reports = State.reset.reports ∧
    t.link = { State.reset.link with line := if s.link.line = .high then .high else .ignored } ∧
    t.port.brd = s.port.brd ∧ t.arbiter.passOver = false ∧
    (∀ m, s.arbiter.onBus = some m →
      t.arbiter.onBus = some { m with orphan := m.orphan || m.byEngine } ∧
      t.port.transfer = s.port.transfer.map (unchangedRest true)) ∧
    (s.arbiter.onBus = none → s.port.transfer = none → t.arbiter.onBus = none ∧ t.port.transfer = none) ∧
    (s.arbiter.onBus = none → ∀ u, s.port.transfer = some u → u.mode ≠ .forwarding →
      t.arbiter.onBus = some (forwarded u) ∧
      t.port.transfer = some { u with mode := .forwarding, unchanged := true, outside := true, holdAsked := false,
                                      inPart := if u.write then [] else List.replicate (u.beats - u.next) none })

/-! ### Invariants -/

/-- The span lists stay as R63 has them, whatever state the step starts from. -/
def Obligations.SpanListsStayInOrder : Prop :=
  KeptByStep fun d => MapWf d.map

/-- The active settings and the report unit's figures stay in their ranges (R151, R153, R154, R155, R157, R162). -/
def Obligations.RangesAreKept : Prop :=
  KeptByStep RangesWf

/-- The bookkeeping of the memory side is kept (R1, R13, R119). -/
def Obligations.MemorySideBookkeepingIsKept : Prop :=
  KeptByStep BusWf

/-- The ring tracker's fields go on agreeing with each other and with the drain record (R20, R22, R124). -/
def Obligations.RingBookkeepingIsKept : Prop :=
  KeptByStep RingWf

/-- A hold keeps to its allowance and to the port that waits for it (R10, R131 to R135), and no transfer in progress in a run is one that
the ring leaves out (R4, R23). -/
def Obligations.HoldBookkeepingIsKept : Prop :=
  KeptByStep BusHoldWf

/-- Every invariant above holds after reset. -/
def Obligations.InvariantsHoldAtReset : Prop :=
  MapWf State.reset.map ∧ RangesWf State.reset.toDevice ∧ BusWf State.reset.toDevice ∧ RingWf State.reset.toDevice ∧
    BusHoldWf State.reset.toDevice

/-- No command but READ COUNTERS with the clear option, ARM and RESET makes a run counter smaller, nor does an idle step, and nothing
takes one past 2^32 - 1 (R157). -/
def Obligations.CountersNeverFall : Prop :=
  ∀ (c : Option Instr) (s t : State), moves c s t → (∀ n ∈ counterList s.reports.counters, n ≤ 4294967295) →
    (∀ n ∈ counterList t.reports.counters, n ≤ 4294967295) ∧
    ((∀ arg, c = some (.readCounters arg) → arg.getLsbD 0 = false) → (∀ arg, c ≠ some (.arm arg)) → c ≠ some .reset →
      ∀ k : Nat, (counterList s.reports.counters).getD k 0 ≤ (counterList t.reports.counters).getD k 0)

/-- By a command or an idle step, the active geometry changes only when ARM is taken in OFF, or at a reset (R18, R162, R164). An
attention cause once set stays set until CLEAR ATTENTION or reset, and the enables change only at SET ATTENTION ENABLE or
reset (R177), but for a request whose bytes complete the payload of another (R169). -/
def Obligations.GeometryAndCausesStay : Prop :=
  ∀ (c : Option Instr) (s t : State), moves c s t → c ≠ some .reset →
    ((∀ arg, c = some (.arm arg) → s.control.run ≠ .off) → t.control.geometry = s.control.geometry) ∧
    ((∀ k, c = some k → isRequest k = true → ¬ collects s) →
      ((∀ arg p, c ≠ some (.clearAttention arg p)) → s.link.causes &&& t.link.causes = s.link.causes) ∧
      ((∀ arg p, c ≠ some (.setAttentionEnable arg p)) → t.link.enables = s.link.enables))

/-! ### Transactions of the link -/

/-- TRANSACTION_BEGIN with LSEL high: the status word is captured with the fields of R170 at the bits of section 10.2, and nothing
else changes. TRANSACTION_END with LSEL low: the line is high again; an input request short of its payload sets REQUEST_BAD
and its payload is discarded; nothing else changes, so an unfinished READ REPORT pops nothing (R169, R171, R174). LDO gives the
two bytes of the status word, the reply, and 0x00 past the reply's length, after an unknown request code and during an input
request; it gives nothing with LSEL high or ignored since a reset (R169, R171, R172, R179). -/
def Obligations.TransactionsBeginAndEnd : Prop :=
  (∀ s : State, s.link.line = .high → s.reports.queue.length ≤ 32 → ∃ w : BitVec 16,
    exec .transactionBegin s = .next { s with link := { s.link with
      line := .active { status := w, lockFell := false, phase := .awaiting, reply := [] } } } ∧
    w.extractLsb' 14 2 = (match s.control.run with
      | .off => 0
      | .armed => 1
      | .running => 2) ∧
    (w.getLsbD 13 = true ↔ s.control.run = .running ∧ s.ring.lock = some .locked) ∧
    w.getLsbD 12 = s.ring.lockHeld ∧
    (w.getLsbD 11 = true ↔ ∃ k, k < 10 ∧ s.link.causes.getLsbD k = true ∧ s.link.enables.getLsbD k = true) ∧
    w.getLsbD 10 = s.link.requestBad ∧
    (w.getLsbD 9 = true ↔ ∃ n, s.link.holder = .gathering n) ∧
    (w.getLsbD 8 = true ↔ s.engine.job ≠ none) ∧
    (w.extractLsb' 2 6).toNat = s.reports.queue.length ∧ w.extractLsb' 0 2 = 0) ∧
  (∀ s : State, s.link.line ≠ .high →
    (collects s → exec .transactionEnd s = .next { s with link := { s.link with line := .high, requestBad := true } }) ∧
    (¬ collects s → exec .transactionEnd s = .next { s with link := { s.link with line := .high } })) ∧
  (∀ (s : State) (k : Nat), s.link.line = .high ∨ s.link.line = .ignored → ldoOut s.link.line k = none) ∧
  (∀ (s : State) (x : Transaction) (high low : Byte), s.link.line = .active x → x.status = high ++ low →
    ldoOut s.link.line 0 = some high ∧ ldoOut s.link.line 1 = some low ∧
    (∀ k b, x.reply[k]? = some b → ldoOut s.link.line (k + 2) = some b) ∧
    (∀ k, x.reply.length ≤ k → ldoOut s.link.line (k + 2) = some 0)) ∧
  (∀ (s t : State) (x : Transaction) (code arg : Byte) (k : Nat), awaitsRequest s x →
    exec (.unknownRequestCode code arg) s = .next t → ldoOut t.link.line (k + 2) = some 0) ∧
  (∀ (s t : State) (x : Transaction) (arg : Byte) (p : List Byte) (k : Nat), awaitsRequest s x →
    exec (.writeSettings arg p) s = .next t ∨ exec (.clearAttention arg p) s = .next t ∨
      exec (.setAttentionEnable arg p) s = .next t → ldoOut t.link.line (k + 2) = some 0)

/-- The commands that stand for no event stop, by name (notes/assumptions/3.md): a fall of LSEL while it is low and a rise
while it is high, a known code as an unknown one, a transfer off the address space or over another one (R1), a beat that no
transfer on the memory side has (R2, R3), a completion of no transfer, of one with beats outstanding, or with data of another
length (R13). -/
def Obligations.EventsThatCannotHappenStop : Prop :=
  (∀ s : State, s.link.line ≠ .high → exec .transactionBegin s = .fault .selectLow) ∧
  (∀ s : State, s.link.line = .high → exec .transactionEnd s = .fault .selectHigh) ∧
  (∀ (s : State) (code arg : Byte), 1 ≤ code.toNat → code.toNat ≤ 13 →
    exec (.unknownRequestCode code arg) s = .refused .codeIsKnown) ∧
  (∀ (s : State) (w : Bool) (a : BitVec 26) (n : BitVec 4),
    ¬ (a.toNat % 4 = 0 ∧ a.toNat + 4 * (n.toNat + 1) ≤ 67108864) →
      exec (.burnerTransferStart w a n) s = .fault .noSuchAddress) ∧
  (∀ (s : State) (w : Bool) (a : BitVec 26) (n : BitVec 4), a.toNat % 4 = 0 →
    a.toNat + 4 * (n.toNat + 1) ≤ 67108864 → s.port.transfer ≠ none →
      exec (.burnerTransferStart w a n) s = .fault .portBusy) ∧
  (∀ (s : State) (b : Beat) (e : Enables),
    (∀ u, s.port.transfer = some u → u.write = true → u.mode = .forwarding → u.beats ≤ u.next) →
      exec (.writeBeatAccepted b e) s = .fault .noWriteBeat) ∧
  (∀ (s : State) (b : Beat),
    (∀ u, s.port.transfer = some u → u.write = false → u.mode = .forwarding → u.inPart = []) →
      exec (.readBeatData b) s = .fault .noReadBeat) ∧
  (∀ (s : State) (l : List Beat), s.arbiter.onBus = none → exec (.memoryTransferComplete l) s = .fault .noTransfer) ∧
  (∀ (s : State) (l : List Beat) (m : MemTransfer) (u : BurnerTransfer), s.arbiter.onBus = some m → m.byEngine = false →
    s.port.transfer = some u → u.mode = .forwarding → (u.write = true → u.next < u.beats) →
    (u.write = false → u.inPart ≠ []) → exec (.memoryTransferComplete l) s = .fault .beatsOutstanding) ∧
  (∀ (s : State) (l : List Beat) (m : MemTransfer), s.arbiter.onBus = some m → m.byEngine = true →
    l.length ≠ (if m.write then 0 else m.beats) → exec (.memoryTransferComplete l) s = .fault .wrongFetchLength)

/-- A request is taken only as the first of its transaction. With LSEL high, or low and ignored since a reset, it changes
nothing; in a transaction that has had its request, its bytes are ignored (R169, R172, R179); while an input request waits for
payload, the code, argument and payload bytes of any request are payload: they join it, or complete and store it, bytes beyond
it being ignored (the model's choice, notes/assumptions/4.md). -/
def Obligations.RequestsActOnlyAtTheirMoment : Prop :=
  (∀ (c : Instr) (s : State), isRequest c = true → s.link.line = .high → exec c s = .next s) ∧
  (∀ (c : Instr) (s : State), isRequest c = true → s.link.line = .ignored → exec c s = .next s) ∧
  (∀ (c : Instr) (s : State) (t : Transaction), isRequest c = true → s.link.line = .active t →
    t.phase = .taken ∨ t.phase = .reporting → exec c s = .next s) ∧
  (∀ (c : Instr) (s : State) (t : Transaction) (r : InputRequest) (got p : List Byte), isRequest c = true →
    s.link.line = .active t → t.phase = .collecting r got → p = got ++ requestBytes c →
    (p.length < payloadLength r → exec c s = .next { s with link := { s.link with
      line := .active { t with phase := .collecting r p, reply := [] } } }) ∧
    (payloadLength r ≤ p.length → ∃ x y : BitVec 10,
      exec c s = .next { s with
        control := if r = .writeSettings then { s.control with staged := parseSettings (p.take 56), settingsPending := true }
          else s.control,
        link := { s.link with line := .active { t with phase := .taken, reply := [] }, requestBad := false,
                              causes := x, enables := y } } ∧
      (∀ k, k < 10 → x.getLsbD k = (s.link.causes.getLsbD k && !(r = .clearAttention && (payload16 p 0).getLsbD k))) ∧
      (∀ k, k < 10 → y.getLsbD k =
        if r = .setAttentionEnable then (payload16 p 0).getLsbD k else s.link.enables.getLsbD k)))

/-- IDENTIFY replies with the eight bytes of section 10.5 (R173). A request code that the table of section 9.6 does not list sets
REQUEST_BAD, gets no reply and changes nothing else but LOCK_HELD's reload (R24, R171). READ QUALITY replies with RQ, WQ, the
last Q, the recovery count and the drain frame number, and WQ is 7 again (R153, R175). -/
def Obligations.IdentifyQualityAndUnknownCodes : Prop :=
  (∀ (arg : Byte) (s : State) (t : Transaction), awaitsRequest s t →
    exec (.identify arg) s = .next (afterTake s t false .taken [0xA5, 0x31, 0x01, 0x04, 0x00, 0x18, 0x40, 0x00])) ∧
  (∀ (code arg : Byte) (s : State) (t : Transaction), awaitsRequest s t → code.toNat = 0 ∨ 14 ≤ code.toNat →
    exec (.unknownRequestCode code arg) s = .next (afterTake s t true .taken [])) ∧
  (∀ (arg : Byte) (s : State) (t : Transaction), awaitsRequest s t → ∃ reply : List Byte,
    reply.length = 8 ∧ reply.getD 0 0 = BitVec.ofNat 8 s.reports.runQuality ∧
    reply.getD 1 0 = BitVec.ofNat 8 s.reports.worstQuality ∧ reply.getD 2 0 = BitVec.ofNat 8 s.reports.lastQuality ∧
    reply.getD 3 0 = BitVec.ofNat 8 s.reports.recovery ∧ payload32 reply 4 = s.ring.drainFrame ∧
    exec (.readQuality arg) s = .next
      { afterTake s t false .taken reply with reports := { s.reports with worstQuality := 7 } })

/-! ### Settings, ARM, END RUN -/

/-- READ SETTINGS: argument 0 replies with the staged copy and the refusal reason, 1 with the active copy, any other argument is a
bad request (R171, R173). The staged copy reads back as WRITE SETTINGS wrote it, byte for byte, but for byte 41, which carries
the refusal reason (R173, R181); the active copy as ARM takes it reads back as the staged copy clamped, with bits 2 to 7 of byte
5 and byte 41 zero and byte 31 as 0 or 1 (R163, R173, R181). -/
def Obligations.SettingsReadBack : Prop :=
  (∀ (arg : Byte) (s : State) (t : Transaction), awaitsRequest s t →
    (arg = 0 → exec (.readSettings arg) s =
      .next (afterTake s t false .taken (stagedBytes s.control.staged s.control.refusal))) ∧
    (arg = 1 → exec (.readSettings arg) s =
      .next (afterTake s t false .taken (activeBytes s.control.geometry s.control.repair))) ∧
    (arg ≠ 0 → arg ≠ 1 → exec (.readSettings arg) s = .next (afterTake s t true .taken []))) ∧
  (∀ (p : List Byte) (refusal : Nat), p.length = 56 →
    stagedBytes (parseSettings p) refusal = p.set 41 (BitVec.ofNat 8 refusal)) ∧
  (∀ p : List Byte, p.length = 56 → ∃ a, a = activeBytes (stagedGeometry (parseSettings p)) (clampRepair (parseSettings p)) ∧
    a.length = 56 ∧
    (∀ k, k < 56 → k ≠ 5 → (k < 21 ∨ 42 ≤ k ∨ k = 27 ∨ k = 28 ∨ k = 29) → a.getD k 0 = p.getD k 0) ∧
    a.getD 5 0 = p.getD 5 0 &&& 3 ∧
    (a.getD 21 0).toNat = max 1 (min (p.getD 21 0).toNat 8) ∧
    256 * (a.getD 22 0).toNat + (a.getD 23 0).toNat = min (256 * (p.getD 22 0).toNat + (p.getD 23 0).toNat) 1023 ∧
    256 * (a.getD 24 0).toNat + (a.getD 25 0).toNat = min (256 * (p.getD 24 0).toNat + (p.getD 25 0).toNat) 1023 ∧
    (a.getD 26 0).toNat = min (p.getD 26 0).toNat 16 ∧ (a.getD 30 0).toNat = min (p.getD 30 0).toNat 7 ∧
    a.getD 31 0 = (if p.getD 31 0 = 0 then 0 else 1) ∧ (a.getD 32 0).toNat = min (p.getD 32 0).toNat 15 ∧
    (∀ k, 33 ≤ k → k ≤ 38 → (a.getD k 0).toNat = min (p.getD k 0).toNat 15) ∧
    (a.getD 39 0).toNat = max 1 (p.getD 39 0).toNat ∧ (a.getD 40 0).toNat = min (p.getD 40 0).toNat 7 ∧ a.getD 41 0 = 0)

/-- WRITE SETTINGS with its 56 bytes clocked stores them in the staged copy and sets the pending flag; bytes beyond are ignored;
short of 56 it waits and stores nothing (R164, R169, R172, R173). -/
def Obligations.WriteSettingsStores : Prop :=
  ∀ (arg : Byte) (p : List Byte) (s : State) (t : Transaction), awaitsRequest s t →
    (56 ≤ p.length → exec (.writeSettings arg p) s = .next
      { afterTake s t false .taken [] with control := { s.control with staged := parseSettings (p.take 56),
                                                                        settingsPending := true } }) ∧
    (p.length < 56 → exec (.writeSettings arg p) s = .next
      (afterTake s t s.link.requestBad (.collecting .writeSettings p) []))

/-- An ARM in OFF with valid staged geometry is accepted (R165, R166): the active copy is the staged one, clamped; the ring
has C EMPTY entries, the map no span, the order is empty; the report unit starts anew; the part is ARMED. Causes, enables,
the snapshot holder and the burner transfer in progress are kept. -/
def Obligations.ArmIsAccepted : Prop :=
  ∀ (arg : Byte) (s : State) (t : Transaction), awaitsRequest s t → s.control.run = .off →
    GeometryValid (stagedGeometry s.control.staged) → ∃ e : SlotEntry, e.state = .empty ∧ e.flags = SlotFlags.clear ∧
    e.uncheckedFrom = 0 ∧ exec (.arm arg) s = .next
      { afterTake s t false .taken [] with
        control := { run := .armed, staged := s.control.staged, geometry := stagedGeometry s.control.staged,
                     repair := clampRepair s.control.staged, settingsPending := false, refusal := 0 },
        ring := { slots := List.replicate s.control.staged.slots.toNat e,
                  lock := none, lockHeld := false, fillSlot := none, fillOpen := false, draining := none,
                  nextFrame := 0, drainFrame := 0 },
        map := { spans := List.replicate s.control.staged.slots.toNat [] },
        engine := { s.engine with order := [] },
        reports := { queue := [], gap := 0, runQuality := 7, worstQuality := 7, lastQuality := 7, recovery := 0,
                     counters := Counters.zero } }

/-- An ARM in OFF whose staged geometry fails a check is refused with the number of the first check that fails; an ARM outside
OFF is a bad request without effect (R165, R167, R171). -/
def Obligations.ArmIsRefused : Prop :=
  ∀ (arg : Byte) (s : State) (t : Transaction), awaitsRequest s t →
    (∀ n, s.control.run = .off → 1 ≤ n → n ≤ 8 → ¬ passesCheck (stagedGeometry s.control.staged) n →
      (∀ k, k < n → passesCheck (stagedGeometry s.control.staged) k) →
      ∃ u, exec (.arm arg) s = .next u ∧ u.control = { s.control with refusal := n } ∧
        u.link.causes = s.link.causes ||| 8 ∧
        u = { afterTake s t false .taken [] with
              control := u.control, link := { (afterTake s t false .taken []).link with causes := u.link.causes } }) ∧
    (s.control.run ≠ .off → exec (.arm arg) s = .next (afterTake s t true .taken []))

/-- END RUN in ARMED or RUNNING ends the run: the part is OFF, the ring, the map, the checker, the engine and the delivery
unit are at their starting values, LOCK_HELD is 0, and settings and enables are kept. The closing record is reported as it
stands and then the drain record as PARTIAL, a held read's ticks charged; with neither, no report is built. A map query still
GATHERING completes empty. A transfer on the memory side completes, an engine's without effect on the part, and the rest of a
burner transfer, a held read's too, is forwarded unchanged as one transfer, at once if the memory side is free (R16, R42, R60,
R77, R81, R122, R143, R160, R168). In OFF END RUN has no effect. The model's choices: the C entries of the tables of ring and map
and the N of the checker's (notes/assumptions/24.md), the frame number 0 of EMPTY entries (notes/assumptions/16.md), and that the
rest of a write is outside the ring for good after RUNNING alone (notes/assumptions/9.md). -/
def Obligations.EndRunEndsTheRun : Prop :=
  ∀ (arg : Byte) (s : State) (t : Transaction), awaitsRequest s t →
    (s.control.run = .off → exec (.endRun arg) s = .next (afterTake s t false .taken [])) ∧
    (s.control.run ≠ .off → ∃ u, exec (.endRun arg) s = .next u ∧ u.pending = s.pending ∧
      u.control = { s.control with run := .off } ∧ u.ring = Ring.start s.control.geometry.slots ∧
      u.checker = { context := none, table := List.replicate s.control.geometry.lines .unwritten } ∧
      u.map = { spans := List.replicate s.control.geometry.slots [] } ∧
      u.engine = { order := [], job := none, claiming := false } ∧
      u.delivery = { record := none, closing := none, held := none, context := none, countedHead := none } ∧
      u.arbiter.passOver = false ∧ u.link.requestBad = false ∧ u.link.enables = s.link.enables ∧
      s.link.causes &&& u.link.causes = s.link.causes ∧
      (∀ n, s.link.holder = .gathering n → u.link.holder = .ready
        { slot := n, state := .empty, flags := SlotFlags.clear, frame := 0, spans := [], free := 1024 }) ∧
      ((∀ n, s.link.holder ≠ .gathering n) → u.link.holder = s.link.holder) ∧
      (s.delivery.record = none → s.delivery.closing = none →
        u.reports = s.reports ∧ u.link.causes = s.link.causes) ∧
      u.port.brd = s.port.brd ∧
      (∀ m, s.arbiter.onBus = some m → u.arbiter.onBus = some { m with orphan := m.orphan || m.byEngine } ∧
        u.port.transfer = s.port.transfer.map (unchangedRest (s.control.run == .running))) ∧
      (s.arbiter.onBus = none → s.port.transfer = none → u.arbiter.onBus = none ∧ u.port.transfer = none) ∧
      (s.arbiter.onBus = none → ∀ v, s.port.transfer = some v → v.mode ≠ .forwarding →
        u.arbiter.onBus = some (forwarded v) ∧
        u.port.transfer = some { v with mode := .forwarding, unchanged := true, holdAsked := false,
                                        outside := v.outside || s.control.run == .running,
                                        inPart := if v.write then [] else List.replicate (v.beats - v.next) none }) ∧
      (s.reports.queue.length + 2 ≤ 32 → ∃ a b : List FrameReport, u.reports.queue = s.reports.queue ++ a ++ b ∧
        (s.delivery.closing = none → a = []) ∧ (s.delivery.record = none → b = []) ∧
        (∀ r, s.delivery.closing = some r → ∃ p, a = [p] ∧ p.frame = r.frame ∧ p.slot = r.slot ∧ p.endKind = r.endKind ∧
          p.drainStarted = true ∧ p.signature = r.signature ∧ p.holdTime = r.holdTime) ∧
        (∀ r, s.delivery.record = some r → ∃ p charge, b = [p] ∧ p.frame = r.frame ∧ p.slot = r.slot ∧
          p.endKind = .cutOff ∧ p.drainStarted = true ∧ p.signature = r.signature ∧
          charge = s.delivery.held.elim 0 HeldRead.ticks ∧ p.holdTime = r.holdTime + charge ∧
          p.allowanceLeft = r.allowanceLeft - charge)))

/-! ### Reports, counters, quality -/

/-- READ REPORT replies with the oldest record, its valid bit set, or with 36 zero bytes from an empty queue, and the queue keeps its
head. REPORT_POP removes the record that a READ REPORT has returned, and only that: the records behind keep their order, and with
no record being returned nothing changes, in a transaction of another request too (the model's choice, notes/assumptions/20.md).
If LSEL rises first, the queue keeps its head (R174). -/
def Obligations.ReportsAreReadAndPopped : Prop :=
  (∀ (arg : Byte) (s : State) (t : Transaction), awaitsRequest s t →
    (s.reports.queue = [] → exec (.readReport arg) s = .next (afterTake s t false .taken (List.replicate 36 0))) ∧
    (∀ r rest, s.reports.queue = r :: rest → ((reportBytes r).getD 0 0).getLsbD 0 = true ∧
      exec (.readReport arg) s = .next (afterTake s t false .reporting (reportBytes r)))) ∧
  (∀ (s : State) (t : Transaction), s.link.line = .active t → t.phase = .reporting →
    exec .reportPop s = .next { s with
      reports := { s.reports with queue := s.reports.queue.tail },
      link := { s.link with line := .active { t with phase := .taken } } } ∧
    exec .transactionEnd s = .next { s with link := { s.link with line := .high } }) ∧
  (∀ s : State, (∀ t, s.link.line = .active t → t.phase ≠ .reporting) → exec .reportPop s = .next s)

/-- A frame report's 36 bytes carry its fields at the places of section 10.4, each field in its range. -/
def Obligations.ReportRecordLayout : Prop :=
  ∀ r : FrameReport, r.quality ≤ 7 → r.endKind ≠ .stillOpen → ∃ b, b = reportBytes r ∧ b.length = 36 ∧
    (b.getD 0 0).toNat = 1 + (if r.drainStarted then 2 else 0) + 4 * (match r.endKind with
        | .complete => 0
        | .overwritten => 1
        | .cutOff => 2
        | .stillOpen => 3) + 16 * r.quality ∧
    (b.getD 1 0).toNat = (if r.flags.lossy then 1 else 0) + (if r.flags.stale then 2 else 0)
      + (if r.flags.seek then 4 else 0) + (if r.flags.overtake then 8 else 0) + (if r.flags.overwritten then 16 else 0) ∧
    b.getD 2 0 = BitVec.ofNat 8 r.slot ∧ b.getD 3 0 = BitVec.ofNat 8 r.gap ∧
    b.getD 4 0 = BitVec.ofNat 8 r.holdCount ∧ b.getD 5 0 = BitVec.ofNat 8 r.unverified ∧
    payload32 b 6 = r.frame ∧ payload16 b 10 = BitVec.ofNat 16 r.impairment ∧
    payload16 b 12 = BitVec.ofNat 16 r.grades.g1 ∧ payload16 b 14 = BitVec.ofNat 16 r.grades.g2 ∧
    payload16 b 16 = BitVec.ofNat 16 r.grades.g3 ∧ payload16 b 18 = BitVec.ofNat 16 r.grades.g4 ∧
    payload16 b 20 = BitVec.ofNat 16 r.grades.g5 ∧ payload16 b 22 = BitVec.ofNat 16 r.grades.g6 ∧
    payload16 b 24 = BitVec.ofNat 16 r.damaged ∧ payload16 b 26 = BitVec.ofNat 16 r.absorbed ∧
    payload16 b 28 = BitVec.ofNat 16 r.holdTime ∧ payload16 b 30 = BitVec.ofNat 16 r.allowanceLeft ∧
    payload32 b 32 = r.signature

/-- READ COUNTERS replies with the sixteen counters in order, each as four bytes; with the lowest argument bit they are
cleared at the same moment (R158, R175). -/
def Obligations.ReadCountersReplies : Prop :=
  ∀ (arg : Byte) (s : State) (t : Transaction), awaitsRequest s t → ∃ reply : List Byte,
    reply.length = 64 ∧
    (∀ k, k < 16 → payload32 reply (4 * k) = BitVec.ofNat 32 ((counterList s.reports.counters).getD k 0)) ∧
    (arg.getLsbD 0 = false → exec (.readCounters arg) s = .next (afterTake s t false .taken reply)) ∧
    (arg.getLsbD 0 = true → exec (.readCounters arg) s = .next
      { afterTake s t false .taken reply with reports := { s.reports with counters := Counters.zero } })

/-- In a report as it is built, In is the grade counts weighted by the active grade weights, times 1024, over the lines per frame, at
most 65535 (R148); Q is 7 less the number of effective thresholds that In meets, the effective Tj being the largest of T1 to Tj
of the active settings, and 0 for an OVERWRITTEN report (R149). -/
def Obligations.ImpairmentAndQualityIndex : Prop :=
  ∀ (d : Device) (e : Ending), ∃ (r : FrameReport) (w c : Grades), r = buildReport d e ∧ w = d.control.repair.weights ∧
    c = r.grades ∧
    r.impairment = min 65535
      ((w.g1 * c.g1 + w.g2 * c.g2 + w.g3 * c.g3 + w.g4 * c.g4 + w.g5 * c.g5 + w.g6 * c.g6) * 1024
        / d.control.geometry.lines) ∧
    (e.endKind = .overwritten → r.quality = 0) ∧
    (e.endKind ≠ .overwritten → r.quality =
      7 - ((List.range 7).filter fun j =>
        decide (((thresholdList d.control.repair.thresholds).take (j + 1)).foldl max 0 ≤ r.impairment)).length)

/-- A report of quality q moves RQ and the recovery count by the table of R151, raises QUALITY_LOW when it lowers RQ below the
alarm level (R152), sets last Q, lowers WQ (R150, R153), and changes nothing else. -/
def Obligations.RunQualityFollowsReports : Prop :=
  ∀ (q : Nat) (d : Device), ∃ rq count : Nat,
    (q < d.reports.runQuality → rq = q ∧ count = 0) ∧
    (q = d.reports.runQuality → rq = q ∧ count = 0) ∧
    (d.reports.runQuality < q → d.reports.recovery + 1 < d.control.repair.recovery →
      rq = d.reports.runQuality ∧ count = d.reports.recovery + 1) ∧
    (d.reports.runQuality < q → d.control.repair.recovery ≤ d.reports.recovery + 1 →
      rq = d.reports.runQuality + 1 ∧ count = 0) ∧
    foldQuality q d = { d with
      reports := { d.reports with runQuality := rq, recovery := count, lastQuality := q,
                                  worstQuality := min d.reports.worstQuality q },
      link := { d.link with causes :=
        if rq < d.reports.runQuality ∧ rq < d.control.repair.alarm then d.link.causes ||| 16 else d.link.causes } }

/-- A record offered to a queue of fewer than 32 joins its tail with the pending gap count, which is cleared, and REPORT_READY
is raised if the queue was empty; a full queue drops it, counts the gap up to 255 and raises REPORT_LOST. Nothing else changes
(R154, R155). -/
def Obligations.QueueTakesOrDropsReports : Prop :=
  ∀ (r : FrameReport) (d : Device),
    (d.reports.queue.length < 32 → offerReport r d = { d with
      reports := { d.reports with queue := d.reports.queue ++ [{ r with gap := d.reports.gap }], gap := 0 },
      link := { d.link with causes := if d.reports.queue = [] then d.link.causes ||| 1 else d.link.causes } }) ∧
    (32 ≤ d.reports.queue.length → offerReport r d = { d with
      reports := { d.reports with gap := min (d.reports.gap + 1) 255 },
      link := { d.link with causes := d.link.causes ||| 2 } })

/-- In a frame report, lines damaged plus lines absorbed are the lengths of the slot's spans; and the six grade counts add up to the
same while the lines tallied, redirected and delivered damaged are no more than that (R146). Where they are more, which R146 rules
out, the sum is theirs: the model's choice (notes/assumptions/21.md). -/
def Obligations.GradeCountsAddUp : Prop :=
  ∀ (d : Device) (e : Ending), SpanListWf (spansOf d e.slot) → ∃ r lengths counted : Nat,
    r = (buildReport d e).damaged + (buildReport d e).absorbed ∧
    lengths = ((spansOf d e.slot).map spanLength).sum ∧
    counted = ((spansOf d e.slot).map fun p =>
      p.tallies.g1 + p.tallies.g2 + p.tallies.g3 + p.tallies.g4 + p.tallies.g6).sum + e.redirected + e.damaged ∧
    r = lengths ∧
    (buildReport d e).grades.g1 + (buildReport d e).grades.g2 + (buildReport d e).grades.g3 + (buildReport d e).grades.g4
      + (buildReport d e).grades.g5 + (buildReport d e).grades.g6 = max lengths counted ∧
    (counted ≤ lengths → (buildReport d e).grades.g1 + (buildReport d e).grades.g2 + (buildReport d e).grades.g3
      + (buildReport d e).grades.g4 + (buildReport d e).grades.g5 + (buildReport d e).grades.g6 = r)

/-! ### Map query and attention -/

/-- MAP QUERY in a run for a slot below C puts the holder into GATHERING, and else answers at once with the empty snapshot;
SNAPSHOT_TAKEN copies the slot's entry, its spans and the free count; with no query outstanding it does nothing (the model's
choice, notes/assumptions/20.md). MAP FETCH replies with 300 bytes: from a READY holder the header and one entry for each span at
the places of section 10.6, zeros after them; from any other holder zeros; the holder is kept (R79 to R81, R176). -/
def Obligations.MapQueriesAreAnswered : Prop :=
  (∀ (arg : Byte) (s : State) (t : Transaction), awaitsRequest s t →
    ∃ h, exec (.mapQuery arg) s = .next { afterTake s t false .taken [] with
        link := { (afterTake s t false .taken []).link with holder := h } } ∧
      (s.control.run ≠ .off → arg.toNat < s.control.geometry.slots → h = .gathering arg.toNat) ∧
      (s.control.run = .off ∨ s.control.geometry.slots ≤ arg.toNat → h = .ready
        { slot := arg.toNat, state := .empty, flags := SlotFlags.clear, frame := 0, spans := [],
          free := 1024 - (s.map.spans.map List.length).sum })) ∧
  (∀ (s : State) (n : Nat), s.link.holder = .gathering n → ∃ m : Snapshot,
    m = { slot := n, state := (slotAt s.toDevice n).state, flags := (slotAt s.toDevice n).flags,
          frame := (slotAt s.toDevice n).frame, spans := spansOf s.toDevice n,
          free := 1024 - (s.map.spans.map List.length).sum } ∧
    exec .snapshotTaken s = .next { s with link := { s.link with holder := .ready m } }) ∧
  (∀ s : State, (∀ n, s.link.holder ≠ .gathering n) → exec .snapshotTaken s = .next s) ∧
  (∀ (arg : Byte) (s : State) (t : Transaction), awaitsRequest s t → ∃ reply : List Byte,
    exec (.mapFetch arg) s = .next (afterTake s t false .taken reply) ∧
    ((∀ n, s.link.holder ≠ .ready n) → reply = List.replicate 300 0) ∧
    (∀ n, s.link.holder = .ready n → n.spans.length ≤ 24 → reply.length = 300 ∧
      reply.getD 0 0 = 1 ∧ reply.getD 1 0 = BitVec.ofNat 8 n.slot ∧
      (reply.getD 2 0).toNat = (match n.state with
        | .empty => 0
        | .filling => 1
        | .filled => 2
        | .draining => 3
        | .drained => 4) ∧
      (reply.getD 3 0).toNat = (if n.flags.lossy then 1 else 0) + (if n.flags.stale then 2 else 0)
        + (if n.flags.seek then 4 else 0) + (if n.flags.overtake then 8 else 0) + (if n.flags.overwritten then 16 else 0) ∧
      payload32 reply 4 = n.frame ∧
      reply.getD 8 0 = BitVec.ofNat 8 n.spans.length ∧ reply.getD 9 0 = 0 ∧
      payload16 reply 10 = BitVec.ofNat 16 n.free ∧
      (∀ j p, n.spans[j]? = some p →
        payload16 reply (12 + 12 * j) = BitVec.ofNat 16 p.first ∧
        payload16 reply (14 + 12 * j) = BitVec.ofNat 16 p.last ∧
        (reply.getD (16 + 12 * j) 0).toNat = (if p.causes.check then 1 else 0) + (if p.causes.deck then 2 else 0)
          + (if p.causes.range then 4 else 0) + (if p.causes.number then 8 else 0) + (if p.causes.torn then 16 else 0)
          + (if p.causes.rewrite then 32 else 0) + (if p.causes.missing then 64 else 0) ∧
        (reply.getD (17 + 12 * j) 0).toNat = (match p.state with
          | .waiting => 0
          | .queued => 1
          | .active => 2
          | .done => 3
          | .abandoned => 4) ∧
        payload16 reply (18 + 12 * j) = BitVec.ofNat 16 p.absorbed ∧
        payload16 reply (20 + 12 * j) = BitVec.ofNat 16 p.progress ∧
        payload16 reply (22 + 12 * j) =
          BitVec.ofNat 16 (p.tallies.g1 + p.tallies.g2 + p.tallies.g3 + p.tallies.g4 + p.tallies.g6)) ∧
      (∀ k, 12 + 12 * n.spans.length ≤ k → reply.getD k 0 = 0)))

/-- READ ATTENTION, CLEAR ATTENTION and SET ATTENTION ENABLE (R177): the causes and enables as two fields; a stored clear
takes away the causes named by ones and no other; a stored enable field replaces all ten; a short payload waits and stores
nothing. -/
def Obligations.AttentionRequests : Prop :=
  (∀ (arg : Byte) (s : State) (t : Transaction), awaitsRequest s t → ∃ reply : List Byte, reply.length = 4 ∧
    exec (.readAttention arg) s = .next (afterTake s t false .taken reply) ∧
    (∀ k, (payload16 reply 0).getLsbD k = s.link.causes.getLsbD k ∧
      (payload16 reply 2).getLsbD k = s.link.enables.getLsbD k)) ∧
  (∀ (arg a b : Byte) (more : List Byte) (s : State) (t : Transaction), awaitsRequest s t → ∃ x : BitVec 10,
    exec (.clearAttention arg (a :: b :: more)) s = .next { afterTake s t false .taken [] with
      link := { (afterTake s t false .taken []).link with causes := x } } ∧
    ∀ k, k < 10 → x.getLsbD k = (s.link.causes.getLsbD k && !(a ++ b).getLsbD k)) ∧
  (∀ (arg a b : Byte) (more : List Byte) (s : State) (t : Transaction), awaitsRequest s t → ∃ x : BitVec 10,
    exec (.setAttentionEnable arg (a :: b :: more)) s = .next { afterTake s t false .taken [] with
      link := { (afterTake s t false .taken []).link with enables := x } } ∧
    ∀ k, k < 10 → x.getLsbD k = (a ++ b).getLsbD k) ∧
  (∀ (arg : Byte) (p : List Byte) (s : State) (t : Transaction), awaitsRequest s t → p.length < 2 →
    exec (.clearAttention arg p) s = .next (afterTake s t s.link.requestBad (.collecting .clearAttention p) []) ∧
    exec (.setAttentionEnable arg p) s =
      .next (afterTake s t s.link.requestBad (.collecting .setAttentionEnable p) []))

/-- ATN is pulled low exactly while some attention cause is set whose enable is set; the ATTN field of a captured status word is the
same condition; and ATN is released after reset (R178). -/
def Obligations.AttentionLineFollowsCauses : Prop :=
  (∀ d : Device, atnAsserted d = true ↔
    ∃ k, k < 10 ∧ d.link.causes.getLsbD k = true ∧ d.link.enables.getLsbD k = true) ∧
  (∀ s t : State, exec .transactionBegin s = .next t → ∃ x, t.link.line = .active x ∧
    x.status.getLsbD 11 = atnAsserted s.toDevice) ∧
  (∀ s t : State, exec .reset s = .next t → t.link.enables = 0 ∧ atnAsserted t.toDevice = false)

/-! ### The buffer bus -/

/-- BURNER_TRANSFER_START from an idle port (R1, R4, R5, R6) always goes on, and touches neither checker nor station settings.
With the memory side taken, the claim waits; with it free and the engine not claiming, a write, or a read begun outside
RUNNING, or a read of which no beat is the DRAINING slot's or starts a drain, is on the memory side at once as one unchanged
transfer. -/
def Obligations.TransfersStart : Prop :=
  ∀ (w : Bool) (a : BitVec 26) (n : BitVec 4) (s : State), a.toNat % 4 = 0 → a.toNat + 4 * (n.toNat + 1) ≤ 67108864 →
    s.port.transfer = none →
    (∃ t, exec (.burnerTransferStart w a n) s = .next t ∧ t.checker = s.checker ∧ t.port.brd = s.port.brd ∧
      t.control.staged = s.control.staged ∧ t.control.geometry = s.control.geometry ∧ t.link.enables = s.link.enables) ∧
    (s.arbiter.onBus ≠ none → exec (.burnerTransferStart w a n) s =
      .next { s with port := { s.port with transfer := some (begun s w a n .waiting []) } }) ∧
    (s.arbiter.onBus = none → s.engine.claiming = false →
      w = true ∨ s.control.run ≠ .running ∨ (∀ k, k ≤ n.toNat → passesUntouched s.toDevice (a.toNat + 4 * k)) →
      ∃ u m, exec (.burnerTransferStart w a n) s = .next (onMemorySide s u m) ∧
        u = begun s w a n .forwarding (if w then [] else List.replicate (n.toNat + 1) none) ∧
        m = { byEngine := false, write := w, addr := a.toNat, beats := n.toNat + 1, lanes := [], orphan := false })

/-- The reads of the DRAINING slot (R7 to R10, R127, R129, R132). A read of sample beats of one line, granted with the memory side free,
decides the line if it is not yet, and is one part at the address that the line's entry gives, each beat counted on its way. A
read that goes on from a redirected line's samples into its trailer is split in front of the trailer. A waiting read whose first line
is decided HELD, granted as a transfer of the engine's stored read or write-back completes, takes the hold: the port is HELD, no part
is issued, and the engine's next transfer takes the memory side (R10, R131). And a grant issues the part formed, or none with a
Hold at its first beat. -/
def Obligations.ReadsOfTheDrainAreFormed : Prop :=
  (∀ (s : State) (r : DrainRecord) (i q : Nat) (a : BitVec 26) (n : BitVec 4), ReadsDrain s r i q a n →
    (∀ (e : LineEntry) (d : Device), s.engine.claiming = false → q + 4 * (n.toNat + 1) ≤ 2 * s.control.geometry.samples →
      e ≠ .held →
      (undecided (entryOf r i) = false ∧ e = entryOf r i ∧ d = s.toDevice) ∨
        (undecided (entryOf r i) = true ∧ e = decideContext s.toDevice r i ∧ d = settleLine r.slot i e s.toDevice) →
      ∃ (u : BurnerTransfer) (m : MemTransfer) (x : DrainRecord), d.delivery.record = some x ∧ entryOf x i = e ∧
        u = begun s false a n .forwarding (lineTags i q (n.toNat + 1)) ∧
        m = { byEngine := false, write := false, addr := sampleAddress s.toDevice r i q e, beats := n.toNat + 1, lanes := [],
              orphan := false } ∧
        exec (.burnerTransferStart false a n) s = .next { s with
          toDevice := { d with
            port := { d.port with transfer := some u }, arbiter := { onBus := some m, passOver := false },
            delivery := { d.delivery with record := some { x with inFlight := x.inFlight + (n.toNat + 1) } } } }) ∧
    (∀ x j k : Nat, s.engine.claiming = false → entryOf r i = .redirected x j → spoiled (slotAt s.toDevice r.slot) = false →
      lineAddress s.control.geometry x j 0 ≠ lineAddress s.control.geometry r.slot i 0 → 0 < k → k ≤ n.toNat →
      q + 4 * k = 2 * s.control.geometry.samples →
      ∃ (u : BurnerTransfer) (m : MemTransfer), u = begun s false a n .forwarding (lineTags i q k) ∧
        m = { byEngine := false, write := false, addr := lineAddress s.control.geometry x j q, beats := k, lanes := [],
              orphan := false } ∧
        exec (.burnerTransferStart false a n) s = .next { onMemorySide s u m with
          delivery := { s.delivery with record := some { r with inFlight := r.inFlight + k } } })) ∧
  (∀ (s : State) (m : MemTransfer) (l : List Beat) (j k : Job) (u : BurnerTransfer) (r : DrainRecord) (i q : Nat),
    RunGoesOn s m l j k → s.port.transfer = some u → u.mode = .waiting → u.write = false → u.unchanged = false →
    u.next < u.beats → AtDrainLine s r i q (u.addr + 4 * u.next) → q < 2 * s.control.geometry.samples →
    undecided (entryOf r i) = true → decideContext s.toDevice r i = .held →
    exec (.memoryTransferComplete l) s = .next { s with
      port := { s.port with transfer := some { u with mode := .held, holdAsked := false, inPart := [] } },
      arbiter := { onBus := some (engineTransfer k), passOver := false },
      engine := { s.engine with job := some k, claiming := false },
      delivery := { s.delivery with
        record := some { r with lines := r.lines.set i .held, holdCount := r.holdCount + 1 },
        held := some { line := i, ticks := 0 } },
      reports := { s.reports with counters := { s.reports.counters with
        holdsTaken := min (s.reports.counters.holdsTaken + 1) 4294967295 } } }) ∧
  (∀ (d : Device) (u : BurnerTransfer), d.port.transfer = some u → u.write = false → u.unchanged = false →
    ∃ f, f = formPart (u.beats - u.next) (u.addr + 4 * u.next) none { d with arbiter := { d.arbiter with passOver := false } } ∧
      f.tags.length ≤ u.beats - u.next ∧ (f.hold = true → f.tags.length < u.beats - u.next) ∧
      (f.tags = [] → grantBurner d = { f.device with port := { f.device.port with
        transfer := some { u with mode := .held, holdAsked := false, inPart := [] } } }) ∧
      (f.tags ≠ [] → ∃ m : MemTransfer, m.byEngine = false ∧ m.write = false ∧ m.beats = f.tags.length ∧
        f.start = some m.addr ∧ grantBurner d = { f.device with
          port := { f.device.port with transfer := some { u with mode := .forwarding, holdAsked := f.hold, inPart := f.tags } },
          arbiter := { f.device.arbiter with onBus := some m } }))

/-- Both claims waiting (R13, R14). When an engine transfer within the stored read or the write-back of a line completes with the
burner claim waiting, the engine's next transfer is granted first, and the pass-over mark set, exactly when urgent precedence is
on, the ACTIVE span is urgent, the burner claim is a write and the mark is clear; else the burner's is granted and the mark
cleared. A read's claim is never passed over: it is on the memory side, or HELD. -/
def Obligations.BothClaimsAreOrdered : Prop :=
  ∀ (s : State) (m : MemTransfer) (l : List Beat) (j k : Job) (u : BurnerTransfer), s.arbiter.onBus = some m →
    m.byEngine = true → m.orphan = false → l.length = (if m.write then 0 else m.beats) → s.engine.job = some j →
    j.phase = .storedRead ∨ j.phase = .writeBack → j.next + 4 * m.beats < j.stop → s.port.transfer = some u →
    u.mode = .waiting →
    k = { j with next := j.next + 4 * m.beats, fetched := j.fetched ++ beatsBytes l,
                 lanes := if m.write then j.lanes.drop (4 * m.beats) else j.lanes } →
    ∃ urgent : Prop, (urgent ↔ s.control.repair.urgentPrecedence = true ∧ s.arbiter.passOver = false ∧
        ((slotAt s.toDevice j.slot).state = .draining ∨
          ((slotAt s.toDevice j.slot).frame - s.ring.drainFrame).toNat ≤ s.control.repair.urgency)) ∧
      (u.write = true → urgent → exec (.memoryTransferComplete l) s = .next { s with
        engine := { s.engine with job := some k, claiming := false },
        arbiter := { onBus := some (engineTransfer k), passOver := true } }) ∧
      (u.write = true → ¬ urgent → exec (.memoryTransferComplete l) s = .next { s with
        engine := { s.engine with job := some k, claiming := true },
        port := { s.port with transfer := some { u with mode := .forwarding, holdAsked := false, inPart := [] } },
        arbiter := { onBus := some (forwarded u), passOver := false } }) ∧
      (u.write = false → u.unchanged = true → exec (.memoryTransferComplete l) s = .next { s with
        engine := { s.engine with job := some k, claiming := true },
        port := { s.port with transfer := some { u with mode := .forwarding, holdAsked := false,
                                                        inPart := List.replicate (u.beats - u.next) none } },
        arbiter := { onBus := some (forwarded u), passOver := false } }) ∧
      (u.write = false → ∃ t v x, exec (.memoryTransferComplete l) s = .next t ∧ t.arbiter.passOver = false ∧
        t.port.transfer = some v ∧ t.arbiter.onBus = some x ∧
        (v.mode = .forwarding ∧ x.byEngine = false ∨ v.mode = .held ∧ x.byEngine = true))

/-- WRITE_BEAT_ACCEPTED (R2, R5): the beat reaches the memory with the data and enables presented, in order, whatever follows
from it; the port's context counts it, the burner's transfer on the memory side stays as it is, and the settings written by
the station stay. A beat in slack, outside the ring or in OFF does nothing more (R18, R19), nor does one in ARMED but a write's first at
the base of a slot, nor any in ARMED of a write that began in OFF (R4, R23, R166). That a beat counts by the run state at the beat,
and that the rest of a write stays outside after the end of its run, is the model's choice (notes/assumptions/9.md). -/
def Obligations.WriteBeatsAreForwarded : Prop :=
  ∀ (b : Beat) (e : Enables) (s : State) (u : BurnerTransfer), s.port.transfer = some u → u.write = true →
    u.mode = .forwarding → u.next < u.beats →
    (∃ t, exec (.writeBeatAccepted b e) s = .next t ∧
      t.port = { s.port with transfer := some { u with next := u.next + 1, written := u.written ++ [(b, e)] } } ∧
      (∀ m, s.arbiter.onBus = some m → m.byEngine = false → t.arbiter = s.arbiter) ∧
      t.control.staged = s.control.staged ∧ t.control.repair = s.control.repair ∧
      t.control.geometry = s.control.geometry ∧ t.link.enables = s.link.enables ∧
      t.link.requestBad = s.link.requestBad ∧ t.link.holder = s.link.holder) ∧
    (s.control.run = .off ∨
        (s.control.run = .armed ∧ (u.outside = true ∨ u.next ≠ 0 ∨
          ∀ i, nameAddress s.control.geometry (u.addr + 4 * u.next) ≠ .line i 0 0)) ∨
        (∀ i j q, nameAddress s.control.geometry (u.addr + 4 * u.next) ≠ .line i j q) →
      exec (.writeBeatAccepted b e) s = .next { s with
        port := { s.port with transfer := some { u with next := u.next + 1, written := u.written ++ [(b, e)] } } })

/-- In ARMED, the first beat of a write at the base of slot k, not one that began in OFF, starts the run: RUNNING, LOCKED, slot k
FILLING frame 0, next frame 1, no DRAINING slot, and with full enables line 0 opens on the same beat (R4, R23, R54, R56). That the
slot's unchecked-from line is 0 is the model's choice (notes/assumptions/30.md). -/
def Obligations.FirstWriteStartsTheRun : Prop :=
  ∀ (b : Beat) (e : Enables) (s : State) (u : BurnerTransfer) (k : Nat), s.port.transfer = some u → u.write = true →
    u.mode = .forwarding → u.next = 0 → 0 < u.beats → u.outside = false → s.control.run = .armed → s.engine = Engine.start →
    nameAddress s.control.geometry u.addr = .line k 0 0 → 0 < s.control.geometry.lines →
    2 ≤ s.control.geometry.samples → e = ⟨true, true, true, true⟩ →
    ∃ t, exec (.writeBeatAccepted b e) s = .next t ∧ t.control = { s.control with run := .running } ∧
      t.ring = { s.ring with
        slots := s.ring.slots.set k { state := .filling, frame := 0, flags := SlotFlags.clear, uncheckedFrom := 0 },
        lock := some .locked, fillSlot := some k, fillOpen := true, draining := none, nextFrame := 1 } ∧
      t.checker.context = some { line := 0, next := 4, crc := crc16 0xFFFF (beatBytes b),
                                 illegal := illegalWords s.control.geometry b, stored := none } ∧
      t.checker.table = (List.replicate s.control.geometry.lines .unwritten).set 0 .lineOpen ∧
      t.map = { s.map with spans := s.map.spans.set k [] } ∧ t.engine = s.engine ∧ t.delivery = s.delivery ∧
      t.reports = s.reports ∧ t.link = s.link

/-- The first beat, with full enables, of a write at the base of slot k in a run (R25, R27, R29, R30, R34, R76). Whatever slot k held, it is FILLING with
the next frame number, its flags are clear but OVERWRITTEN, which tells that an undelivered frame was there, its spans are
free, and line 0 is open; every slot but k and the fill slot stays. The spans of slot k leave the repair order and a job on one of
them is aborted, a waiting claim being withdrawn and a transfer on the memory side left to complete by itself (R117, R119), any
other job goes on, and an engine left IDLE examines the order. While SEEKING it is a relock: LOCKED, nothing closed, no
loss counted. While LOCKED, at the slot after the fill slot it is an advance, lock and LOCK_HELD as they were; elsewhere a jump,
counted as a lock loss, with LOCK_LOST raised and LOCK_HELD 0. An open fill of another slot is closed, with SEEK at a jump. And an
advance with no fill open onto a slot whose frame is gone or drained reports nothing and leaves all else as it was. That the slot's
unchecked-from line is 0 is the model's choice (notes/assumptions/30.md), and so is that the engine examines the order only when the
slot has been begun and the beat taken in full (notes/assumptions/8.md). -/
def Obligations.SlotsAreBegun : Prop :=
  (∀ (b : Beat) (e : Enables) (s : State) (u : BurnerTransfer) (k : Nat), BeginsSlot s u k e →
    ∃ t x, exec (.writeBeatAccepted b e) s = .next t ∧ slotAt t.toDevice k = x ∧ x.state = .filling ∧
      x.frame = s.ring.nextFrame ∧ x.uncheckedFrom = 0 ∧
      x.flags = { SlotFlags.clear with overwritten := decide ((slotAt s.toDevice k).state = .filling ∨
        (slotAt s.toDevice k).state = .filled ∨ (slotAt s.toDevice k).state = .draining) } ∧
      t.ring.nextFrame = s.ring.nextFrame + 1 ∧ t.ring.fillSlot = some k ∧ t.ring.fillOpen = true ∧
      t.ring.drainFrame = s.ring.drainFrame ∧
      t.ring.draining = (if (slotAt s.toDevice k).state = .draining then none else s.ring.draining) ∧
      (k < s.map.spans.length → spansOf t.toDevice k = []) ∧
      t.checker.table = (List.replicate s.control.geometry.lines .unwritten).set 0 .lineOpen ∧
      (s.ring.lock = some .seeking → t.ring.lock = some .locked ∧ t.ring.lockHeld = s.ring.lockHeld ∧
        t.reports.counters.lockLosses = s.reports.counters.lockLosses ∧
        t.reports.counters.framesFilled = s.reports.counters.framesFilled ∧
        ∀ c, c ≠ k → slotAt t.toDevice c = slotAt s.toDevice c) ∧
      (∀ f, s.ring.lock = some .locked → s.ring.fillSlot = some f → t.ring.lock = some .locked ∧
        (∀ c, c ≠ k → c ≠ f ∨ s.ring.fillOpen = false → slotAt t.toDevice c = slotAt s.toDevice c) ∧
        (k = (f + 1) % s.control.geometry.slots → t.ring.lockHeld = s.ring.lockHeld ∧
          t.reports.counters.lockLosses = s.reports.counters.lockLosses) ∧
        (k ≠ (f + 1) % s.control.geometry.slots → t.ring.lockHeld = false ∧ t.link.causes.getLsbD 2 = true ∧
          t.reports.counters.lockLosses = min (s.reports.counters.lockLosses + 1) 4294967295) ∧
        (s.ring.fillOpen = false ∨ f = k → t.reports.counters.framesFilled = s.reports.counters.framesFilled) ∧
        (s.ring.fillOpen = true → f ≠ k → f < s.ring.slots.length →
          t.reports.counters.framesFilled = min (s.reports.counters.framesFilled + 1) 4294967295 ∧
          (slotAt t.toDevice f).state = (if (slotAt s.toDevice f).state = .filling then .filled
            else (slotAt s.toDevice f).state) ∧
          (slotAt t.toDevice f).frame = (slotAt s.toDevice f).frame ∧
          (slotAt t.toDevice f).flags.stale = (slotAt s.toDevice f).flags.stale ∧
          (slotAt t.toDevice f).flags.seek = ((slotAt s.toDevice f).flags.seek ||
            decide (k ≠ (f + 1) % s.control.geometry.slots)))) ∧
      (∀ (f : Nat) (order : List SpanRef), (s.ring.fillOpen = false ∨ s.ring.fillSlot = some k) ∧ order = s.engine.order ∨
          (s.ring.lock = some .locked ∧ s.ring.fillSlot = some f ∧ s.ring.fillOpen = true ∧ f ≠ k) ∧
            order = (closeFill f (decide (k ≠ (f + 1) % s.control.geometry.slots)) s.toDevice).engine.order →
        ∃ d, t.toDevice = wakeEngine d ∧ d.ring = t.ring ∧ d.engine.order = order.filter (fun y => y.slot != k) ∧
          (∀ j, s.engine.job = some j → j.slot = k → d.engine.job = none ∧ d.engine.claiming = false ∧
            d.arbiter = { s.arbiter with onBus := s.arbiter.onBus.map fun m => { m with orphan := m.orphan || m.byEngine } }) ∧
          ((∀ j, s.engine.job = some j → j.slot ≠ k) → d.engine.job = s.engine.job ∧ d.engine.claiming = s.engine.claiming ∧
            d.arbiter = s.arbiter))) ∧
  (∀ (b : Beat) (e : Enables) (s : State) (u : BurnerTransfer) (f k : Nat), s.port.transfer = some u → u.write = true →
    u.mode = .forwarding → u.next = 0 → 0 < u.beats → s.control.run = .running → s.ring.lock = some .locked →
    s.ring.fillSlot = some f → s.ring.fillOpen = false → k = (f + 1) % s.control.geometry.slots →
    nameAddress s.control.geometry u.addr = .line k 0 0 → 0 < s.control.geometry.lines →
    2 ≤ s.control.geometry.samples → e = ⟨true, true, true, true⟩ →
    (slotAt s.toDevice k).state = .empty ∨ (slotAt s.toDevice k).state = .drained →
    (s.engine.job = none ∧ s.engine.order = []) ∨ (∃ j, s.engine.job = some j ∧ j.slot ≠ k) →
    ∃ t, exec (.writeBeatAccepted b e) s = .next t ∧ t.control = s.control ∧
      t.ring = { s.ring with
        slots := s.ring.slots.set k
          { state := .filling, frame := s.ring.nextFrame, flags := SlotFlags.clear, uncheckedFrom := 0 },
        fillSlot := some k, fillOpen := true, nextFrame := s.ring.nextFrame + 1 } ∧
      t.map = { s.map with spans := s.map.spans.set k [] } ∧ t.engine.job = s.engine.job ∧
      t.engine.order = s.engine.order.filter (fun r => r.slot != k) ∧ t.delivery = s.delivery ∧
      t.reports = s.reports ∧ t.link = s.link ∧
      t.checker.table = (List.replicate s.control.geometry.lines .unwritten).set 0 .lineOpen)

/-- The frame that a begun slot k held (R27, R28, R76, R142, R147). A FILLING or FILLED frame gets an OVERWRITTEN report of quality 0 with
its frame number, flags and the signature of no bytes, its spans counted before they are freed; a frame being drained has its
drain record reported OVERWRITTEN, with no record left; both count a frame overwritten and raise FRAME_OVERWRITTEN. An EMPTY or
DRAINED slot gets no report. That the WAITING spans of a frame restarted by a jump are counted in its report, against R76, is the
model's choice (notes/assumptions/26.md). -/
def Obligations.OverwrittenFramesAreReported : Prop :=
  ∀ (b : Beat) (e : Enables) (s : State) (u : BurnerTransfer) (k : Nat), BeginsSlot s u k e →
    ∃ t, exec (.writeBeatAccepted b e) s = .next t ∧
      ((slotAt s.toDevice k).state = .empty ∨ (slotAt s.toDevice k).state = .drained →
        t.reports.queue = s.reports.queue ∧ t.reports.runQuality = s.reports.runQuality ∧
        t.reports.lastQuality = s.reports.lastQuality ∧ t.delivery = s.delivery ∧
        t.reports.counters.framesOverwritten = s.reports.counters.framesOverwritten) ∧
      ((slotAt s.toDevice k).state = .filling ∨ (slotAt s.toDevice k).state = .filled →
        t.link.causes.getLsbD 6 = true ∧ t.reports.lastQuality = 0 ∧ t.reports.runQuality = 0 ∧ t.delivery = s.delivery ∧
        t.reports.counters.framesOverwritten = min (s.reports.counters.framesOverwritten + 1) 4294967295 ∧
        (s.reports.queue.length < 32 → ∃ p, t.reports.queue = s.reports.queue ++ [p] ∧
          p.frame = (slotAt s.toDevice k).frame ∧ p.slot = k ∧ p.flags = (slotAt s.toDevice k).flags ∧
          p.endKind = .overwritten ∧ p.drainStarted = false ∧ p.quality = 0 ∧ p.signature = 0xFFFFFFFF ∧
          p.holdCount = 0 ∧ p.gap = s.reports.gap ∧
          (SpanListWf (spansOf s.toDevice k) →
            p.damaged + p.absorbed = ((spansOf s.toDevice k).map spanLength).sum))) ∧
      (∀ r, (slotAt s.toDevice k).state = .draining → s.delivery.record = some r →
        t.link.causes.getLsbD 6 = true ∧ t.reports.lastQuality = 0 ∧ t.reports.runQuality = 0 ∧
        t.delivery = { s.delivery with record := none } ∧
        t.reports.counters.framesOverwritten = min (s.reports.counters.framesOverwritten + 1) 4294967295 ∧
        (s.reports.queue.length < 32 → ∃ p, t.reports.queue = s.reports.queue ++ [p] ∧ p.frame = r.frame ∧
          p.slot = r.slot ∧ p.endKind = .overwritten ∧ p.drainStarted = true ∧ p.quality = 0 ∧
          p.signature = r.signature ∧ p.holdTime = r.holdTime ∧ p.allowanceLeft = r.allowanceLeft ∧
          p.gap = s.reports.gap))

/-- A line beat of a write in a run that begins no slot and is no beat of the open fill (R25). While LOCKED it is a lock loss: an open
fill is closed with SEEK; the slot the beat falls in becomes STALE unless it is EMPTY or STALE already; the part is SEEKING,
LOCK_HELD falls, and the counters and causes say so (R32). While SEEKING it marks the slot alone (R33). At a marking the spans that
are not DONE become ABANDONED and leave the repair order, and a job on one of them is aborted, a waiting claim being withdrawn and a
transfer on the memory side left to complete by itself (R75, R118, R119). An engine left IDLE examines the order (R104). The model's
choices: that it does so after the close, the marking and the lock loss (notes/assumptions/8.md), and that the lock loss blocks the
next reload of LOCK_HELD even when LOCK_HELD is 0 already (notes/assumptions/7.md). -/
def Obligations.StrayWritesSpoilTheirSlot : Prop :=
  (∀ (b : Beat) (e : Enables) (s : State) (u : BurnerTransfer) (k i q : Nat), s.port.transfer = some u → u.write = true →
      u.mode = .forwarding → u.next < u.beats → s.control.run = .running → s.ring.lock = some .locked →
      s.ring.fillOpen = false → nameAddress s.control.geometry (u.addr + 4 * u.next) = .line k i q →
      ¬ (u.next = 0 ∧ i = 0 ∧ q = 0) →
      (s.engine.job = none ∧ s.engine.order = []) ∨ (∃ j, s.engine.job = some j ∧ j.slot ≠ k) →
      ∃ t, exec (.writeBeatAccepted b e) s = .next t ∧ t.ring.lock = some .seeking ∧ t.ring.lockHeld = false ∧
        t.ring.draining = s.ring.draining ∧ t.ring.nextFrame = s.ring.nextFrame ∧ t.control = s.control ∧
        t.checker = s.checker ∧ t.delivery = s.delivery ∧
        ((slotAt s.toDevice k).state ≠ .empty → (slotAt s.toDevice k).flags.stale = false →
          t.ring.slots = s.ring.slots.set k { slotAt s.toDevice k with
            flags := { (slotAt s.toDevice k).flags with stale := true } } ∧
          t.map.spans = s.map.spans.set k ((spansOf s.toDevice k).map fun p =>
            { p with state := if p.state = .done then .done else .abandoned }) ∧
          t.reports = { s.reports with counters := { s.reports.counters with
            framesStale := min (s.reports.counters.framesStale + 1) 4294967295,
            lockLosses := min (s.reports.counters.lockLosses + 1) 4294967295 } } ∧
          t.link.causes = s.link.causes ||| 0x104) ∧
        ((slotAt s.toDevice k).state = .empty ∨ (slotAt s.toDevice k).flags.stale = true →
          t.ring.slots = s.ring.slots ∧ t.map = s.map ∧
          t.reports = { s.reports with counters := { s.reports.counters with
            lockLosses := min (s.reports.counters.lockLosses + 1) 4294967295 } } ∧
          t.link.causes = s.link.causes ||| 4)) ∧
  (∀ (b : Beat) (e : Enables) (s : State) (u : BurnerTransfer) (k i q : Nat) (d d' : Device), WritesLine s u k i q →
    ¬ (u.next = 0 ∧ i = 0 ∧ q = 0) →
    (s.ring.lock = some .locked ∧ s.ring.fillOpen = false ∧ d = withBeatAccepted s u b e ∨
      ∃ f, s.ring.lock = some .locked ∧ s.ring.fillOpen = true ∧ s.ring.fillSlot = some f ∧ f ≠ k ∧
        d = closeFill f true (withBeatAccepted s u b e)) →
    ((slotAt s.toDevice k).state = .empty ∨ (slotAt s.toDevice k).flags.stale = true) ∧ d' = d ∨
      ((slotAt s.toDevice k).state ≠ .empty ∧ (slotAt s.toDevice k).flags.stale = false) ∧
        ((∀ j, s.engine.job = some j → j.slot ≠ k) ∧ d' = staleMarked k d ∨
          (∃ j, s.engine.job = some j ∧ j.slot = k) ∧ d' = staleMarked k (jobAborted d)) →
    exec (.writeBeatAccepted b e) s = .next { s with toDevice := wakeEngine (lockLost d') }) ∧
  (∀ (b : Beat) (e : Enables) (s : State) (u : BurnerTransfer) (k i q : Nat) (d d' : Device), WritesLine s u k i q →
    ¬ (u.next = 0 ∧ i = 0 ∧ q = 0) → s.ring.lock = some .seeking → s.ring.fillOpen = false → d = withBeatAccepted s u b e →
    ((slotAt s.toDevice k).state = .empty ∨ (slotAt s.toDevice k).flags.stale = true) ∧ d' = d ∨
      ((slotAt s.toDevice k).state ≠ .empty ∧ (slotAt s.toDevice k).flags.stale = false) ∧
        ((∀ j, s.engine.job = some j → j.slot ≠ k) ∧ d' = staleMarked k d ∨
          (∃ j, s.engine.job = some j ∧ j.slot = k) ∧ d' = staleMarked k (jobAborted d)) →
    exec (.writeBeatAccepted b e) s = .next { s with toDevice := wakeEngine d' })

/-- READ_BEAT_DATA (R3, R12, R136, R140) for a beat still to return always goes on, and touches only port, delivery, reports and
attention. A beat that is no beat of a drain, and a sample beat of a drain, reach the burner as they
returned; a drain's beat enters its record's signature, and its sample bytes the line's run. Nothing else changes. What the context
that a beat out of the run breaks holds is the model's choice (notes/assumptions/28.md). While there is a
closing record, a drain's beat is its own, and with its last beat it is reported and gone, the DRAINING slot's record being left
as it is (R126, R141). -/
def Obligations.ReadBeatsAreDelivered : Prop :=
  ∀ (b : Beat) (s : State) (u : BurnerTransfer) (rest : List (Option BeatTag)), s.port.transfer = some u →
    u.write = false → u.mode = .forwarding →
    (∀ x, u.inPart = x :: rest → ∃ t, exec (.readBeatData b) s = .next t ∧
      t.port.transfer = some { u with next := u.next + 1, inPart := rest } ∧ t.control = s.control ∧
      t.arbiter = s.arbiter ∧ t.ring = s.ring ∧ t.checker = s.checker ∧ t.map = s.map ∧ t.engine = s.engine ∧
      t.link = { s.link with causes := t.link.causes }) ∧
    (u.inPart = none :: rest → exec (.readBeatData b) s = .next { s with
      port := { transfer := some { u with next := u.next + 1, inPart := rest }, brd := b } }) ∧
    (∀ (g : BeatTag) (r : DrainRecord), u.inPart = some g :: rest → s.delivery.closing = none →
      s.delivery.record = some r → g.offset < 2 * s.control.geometry.samples →
      exec (.readBeatData b) s = .next { s with
        port := { transfer := some { u with next := u.next + 1, inPart := rest }, brd := b },
        delivery := { s.delivery with
          record := some { r with signature := crc32 r.signature (beatBytes b), inFlight := r.inFlight - 1 },
          countedHead := none,
          context := some
            (if g.offset = 0 then { line := g.line, next := some 4, crc := crc16 0xFFFF (beatBytes b), headMark := false }
             else match s.delivery.context with
              | some c =>
                if c.line = g.line ∧ c.next = some g.offset then
                  { c with next := some (g.offset + 4), crc := crc16 c.crc (beatBytes b) }
                else { line := g.line, next := none, crc := 0xFFFF, headMark := false }
              | none => { line := g.line, next := none, crc := 0xFFFF, headMark := false }) } }) ∧
    (∀ (g : BeatTag) (r : DrainRecord), u.inPart = some g :: rest → s.delivery.closing = some r →
      ∃ t r', exec (.readBeatData b) s = .next t ∧ t.delivery.record = s.delivery.record ∧
        r' = { r with signature := crc32 r.signature (beatBytes t.port.brd), inFlight := r.inFlight - 1,
                      unverified := r'.unverified } ∧
        (r'.unverified = r.unverified ∨ r'.unverified = min (r.unverified + 1) 65535) ∧
        (r.inFlight ≠ 1 → r.inFlight ≠ 0 → t.delivery.closing = some r' ∧ t.reports.queue = s.reports.queue) ∧
        (r.inFlight = 1 → t.delivery.closing = none ∧ (s.reports.queue.length < 32 → ∃ p,
          t.reports.queue = s.reports.queue ++ [p] ∧ p.frame = r.frame ∧ p.slot = r.slot ∧ p.endKind = r.endKind ∧
          p.drainStarted = true ∧ p.signature = r'.signature ∧ p.holdTime = r.holdTime ∧
          p.allowanceLeft = r.allowanceLeft ∧ p.unverified = min r'.unverified 255 ∧ p.gap = s.reports.gap)) ∧
        (r.inFlight = 1 → r.endKind = .complete → t.reports.counters.framesDrained =
          min (s.reports.counters.framesDrained + 1) 4294967295))

/-- The trailer of a rewrite-eligible line whose samples have passed in one run is rewritten (R137, R138): bytes 0 to 3 become
the line number, the stored flags and the station tag with the grade of the line's entry; bytes 4 and 5 become the check word
over what the burner received. Any other trailer beat passes as stored and leaves the context empty; that of an eligible line counts
in the record's unverified count and in the run counter, but for bytes 4 to 7 directly after the line's own counted bytes 0 to 3
(R139). The model's choices: eligibility asked at each trailer beat, a run that stays complete when bytes 0 to 3 are read again, and
what is directly after (notes/assumptions/11.md, 12.md, 13.md). -/
def Obligations.TrailersAreRewritten : Prop :=
  (∀ (b : Beat) (s : State) (u : BurnerTransfer) (rest : List (Option BeatTag)) (g : BeatTag) (r : DrainRecord)
      (c : LineContext), s.port.transfer = some u → u.write = false → u.mode = .forwarding →
      u.inPart = some g :: rest → s.delivery.closing = none → s.delivery.record = some r → s.delivery.context = some c →
      (slotAt s.toDevice r.slot).flags.stale = false → (slotAt s.toDevice r.slot).flags.lossy = false →
      ¬ ((slotAt s.toDevice r.slot).flags.overtake = true ∧ (slotAt s.toDevice r.slot).uncheckedFrom ≤ g.line) →
      c.line = g.line →
      (∀ grade, g.offset = 2 * s.control.geometry.samples → c.next = some (2 * s.control.geometry.samples) →
        (entryOf r g.line = .clean ∧ grade = 0) ∨ (entryOf r g.line = .handled ∧ grade = b.lane3.toNat % 16) ∨
          ((∃ x y, entryOf r g.line = .redirected x y) ∧ grade = 5) ∨ (entryOf r g.line = .damaged ∧ grade = 6) →
        ∃ t out, exec (.readBeatData b) s = .next t ∧ t.port.brd = out ∧
          out = { lane0 := lowerByte s.control.geometry.order g.line, lane1 := upperByte s.control.geometry.order g.line,
                  lane2 := b.lane2, lane3 := BitVec.ofNat 8 (r.stationTag * 16 + grade) } ∧
          t.delivery.context = some { c with crc := crc16 c.crc (beatBytes out), headMark := true } ∧
          t.delivery.record = some { r with signature := crc32 r.signature (beatBytes out), inFlight := r.inFlight - 1 } ∧
          t.reports = s.reports ∧ t.link = s.link) ∧
      (g.offset = 2 * s.control.geometry.samples + 4 → c.headMark = true →
        entryOf r g.line = .clean ∨ entryOf r g.line = .handled ∨ (∃ x y, entryOf r g.line = .redirected x y) ∨
          entryOf r g.line = .damaged →
        ∃ t out, exec (.readBeatData b) s = .next t ∧ t.port.brd = out ∧ out.lane2 = b.lane2 ∧ out.lane3 = b.lane3 ∧
          packetWord s.control.geometry.order out.lane0 out.lane1 = c.crc.toNat ∧ t.delivery.context = none ∧
          t.delivery.record = some { r with signature := crc32 r.signature (beatBytes out), inFlight := r.inFlight - 1 } ∧
          t.reports = s.reports ∧ t.link = s.link)) ∧
  (∀ (b : Beat) (s : State) (u : BurnerTransfer) (rest : List (Option BeatTag)) (g : BeatTag) (r : DrainRecord),
    s.port.transfer = some u → u.write = false → u.mode = .forwarding → u.inPart = some g :: rest →
    s.delivery.closing = none → s.delivery.record = some r → 2 * s.control.geometry.samples ≤ g.offset →
    g.offset < 2 * s.control.geometry.samples + 8 → ∃ eligible : Prop,
    (eligible ↔ (slotAt s.toDevice r.slot).flags.stale = false ∧ (slotAt s.toDevice r.slot).flags.lossy = false ∧
      ¬ ((slotAt s.toDevice r.slot).flags.overtake = true ∧ (slotAt s.toDevice r.slot).uncheckedFrom ≤ g.line) ∧
      (entryOf r g.line = .clean ∨ entryOf r g.line = .handled ∨ (∃ x y, entryOf r g.line = .redirected x y) ∨
        entryOf r g.line = .damaged)) ∧
    (¬ eligible → exec (.readBeatData b) s = .next (trailerAsStored s u rest r b false none)) ∧
    (eligible → g.offset < 2 * s.control.geometry.samples + 4 →
      (∀ c, s.delivery.context = some c → ¬ (c.line = g.line ∧ c.next = some (2 * s.control.geometry.samples))) →
      exec (.readBeatData b) s = .next (trailerAsStored s u rest r b true (some g.line))) ∧
    (eligible → 2 * s.control.geometry.samples + 4 ≤ g.offset →
      (∀ c, s.delivery.context = some c → ¬ (c.line = g.line ∧ c.headMark = true)) →
      (s.delivery.countedHead = some g.line →
        exec (.readBeatData b) s = .next (trailerAsStored s u rest r b false none)) ∧
      (s.delivery.countedHead ≠ some g.line →
        exec (.readBeatData b) s = .next (trailerAsStored s u rest r b true none))))

/-- MEMORY_TRANSFER_COMPLETE (R1, R13, R106, R119) of a transfer whose beats have passed always goes on. With nobody waiting:
the burner's last part leaves the port IDLE and the memory side FREE; the transfer of an aborted job only frees the memory
side; a transfer within the stored read or the write-back of a line is followed by the run's next one, at the next address, up
to the next 64-byte boundary. A part of a burner read that completes with beats left puts the port into HELD where a hold was
asked for at the next beat (R10), and else claims and is granted the remainder: forwarded whole after END RUN or reset (R16,
R17), or formed anew (R8). -/
def Obligations.TransfersComplete : Prop :=
  (∀ (s : State) (m : MemTransfer) (l : List Beat), s.arbiter.onBus = some m →
    l.length = (if m.byEngine = true ∧ m.write = false then m.beats else 0) →
    m.byEngine = true ∨ (∀ u, s.port.transfer = some u → u.mode = .forwarding →
      (u.write = true → u.beats ≤ u.next) ∧ (u.write = false → u.inPart = [])) →
    ∃ t, exec (.memoryTransferComplete l) s = .next t ∧ t.checker = s.checker ∧ t.port.brd = s.port.brd ∧
      t.control.staged = s.control.staged ∧ t.control.geometry = s.control.geometry ∧ t.link.enables = s.link.enables) ∧
  (∀ (s : State) (m : MemTransfer) (u : BurnerTransfer), s.arbiter.onBus = some m → m.byEngine = false →
    s.port.transfer = some u → u.beats ≤ u.next → u.inPart = [] → s.engine.claiming = false →
    exec (.memoryTransferComplete []) s = .next { s with
      port := { s.port with transfer := none }, arbiter := { s.arbiter with onBus := none } }) ∧
  (∀ (s : State) (m : MemTransfer) (l : List Beat), s.arbiter.onBus = some m → m.byEngine = true → m.orphan = true →
    l.length = (if m.write then 0 else m.beats) → s.engine.claiming = false → portState s.toDevice ≠ .waiting →
    exec (.memoryTransferComplete l) s = .next { s with arbiter := { s.arbiter with onBus := none } }) ∧
  (∀ (s : State) (m : MemTransfer) (l : List Beat) (j : Job), s.arbiter.onBus = some m → m.byEngine = true →
    m.orphan = false → l.length = (if m.write then 0 else m.beats) → s.engine.job = some j →
    j.phase = .storedRead ∨ j.phase = .writeBack → j.next + 4 * m.beats < j.stop → portState s.toDevice ≠ .waiting →
    ∃ t k, exec (.memoryTransferComplete l) s = .next t ∧
      k = { j with next := j.next + 4 * m.beats, fetched := j.fetched ++ beatsBytes l,
                   lanes := if m.write then j.lanes.drop (4 * m.beats) else j.lanes } ∧
      t = { s with
        engine := { s.engine with job := some k, claiming := false },
        arbiter := { s.arbiter with onBus := some (engineTransfer k) } }) ∧
  (∀ (s : State) (m : MemTransfer) (u : BurnerTransfer), s.arbiter.onBus = some m → m.byEngine = false →
    s.port.transfer = some u → u.mode = .forwarding → u.write = false → u.next < u.beats → u.inPart = [] →
    s.engine.claiming = false →
    (u.holdAsked = true → exec (.memoryTransferComplete []) s = .next { s with
      port := { s.port with transfer := some { u with mode := .held, holdAsked := false } },
      arbiter := { s.arbiter with onBus := none } }) ∧
    (u.holdAsked = false → u.unchanged = true → exec (.memoryTransferComplete []) s = .next
      (onMemorySide s { u with inPart := List.replicate (u.beats - u.next) none } (forwarded u))) ∧
    (u.holdAsked = false → u.unchanged = false → exec (.memoryTransferComplete []) s = .next
      (s.onDevice fun d => grantBurner { d with
        port := { d.port with transfer := some { u with mode := .waiting } },
        arbiter := { d.arbiter with onBus := none } })))

/-- HOLD_EXPIRY (R131, R134, R135). With no hold waiting it does nothing. With a hold waiting and the memory side taken, the
budget is charged, the expiry counted, the line's context decided as a redirect or a damaged pass, the delivery position comes
to the line, and the port claims the memory side again; ALLOWANCE_SPENT is raised when the charge takes what is left below the
budget. -/
def Obligations.HoldsExpire : Prop :=
  (∀ s : State, s.delivery.held = none → exec .holdExpiry s = .next s) ∧
  (∀ (s : State) (h : HeldRead) (r : DrainRecord) (u : BurnerTransfer), s.delivery.held = some h →
    s.delivery.record = some r → s.port.transfer = some u → u.mode = .held → s.arbiter.onBus ≠ none →
    h.line < r.lines.length → positionAtLeast r.position h.line = false →
    ∃ t r', exec .holdExpiry s = .next t ∧ t.delivery.held = none ∧ t.delivery.record = some r' ∧
      r'.holdTime = r.holdTime + r.holdBudget ∧ r'.allowanceLeft = r.allowanceLeft - r.holdBudget ∧
      r'.position = some h.line ∧
      (temporalUsable s.toDevice r.slot h.line = true →
        entryOf r' h.line = .redirected ((r.slot + s.control.geometry.slots - 1) % s.control.geometry.slots) h.line) ∧
      (temporalUsable s.toDevice r.slot h.line = false → ∀ j, spatialSource s.toDevice r h.line = some j →
        entryOf r' h.line = .redirected r.slot j) ∧
      (temporalUsable s.toDevice r.slot h.line = false → spatialSource s.toDevice r h.line = none →
        entryOf r' h.line = .damaged) ∧
      t.reports.counters.holdExpiries = min (s.reports.counters.holdExpiries + 1) 4294967295 ∧
      t.port = { s.port with transfer := some { u with mode := .waiting, holdAsked := false } } ∧
      t.link = { s.link with causes :=
        if r.holdBudget ≤ r.allowanceLeft ∧ r.allowanceLeft - r.holdBudget < r.holdBudget then s.link.causes ||| 0x200
        else s.link.causes } ∧
      t.control = s.control ∧ t.arbiter = s.arbiter ∧ t.ring = s.ring ∧ t.checker = s.checker ∧ t.map = s.map ∧
      t.engine = s.engine)

/-- When the engine's write-back of the held line i completes, the hold is released (R133, R115, R11): the line is tallied and r is
past it, its ticks are charged, its entry is HANDLED and the delivery position at it, and a remainder of sample beats of the line
is on the memory side at once, at the line's own address, ahead of the engine's next transfer. -/
def Obligations.WriteBackReleasesTheHold : Prop :=
  ∀ (s : State) (m : MemTransfer) (j : Job) (p : Span) (h : HeldRead) (r : DrainRecord) (u : BurnerTransfer) (q : Nat),
    s.arbiter.onBus = some m → m.byEngine = true → m.orphan = false → m.write = true → s.engine.job = some j →
    j.phase = .writeBack → j.stop ≤ j.next + 4 * m.beats → findSpan s.toDevice j.slot j.first = some p →
    p.progress = h.line → j.slot < s.map.spans.length → s.delivery.held = some h → s.delivery.record = some r →
    r.slot = j.slot → s.ring.draining = some r.slot → (slotAt s.toDevice r.slot).state = .draining →
    positionAtLeast r.position h.line = false → h.line < r.lines.length → s.port.transfer = some u → u.mode = .held →
    u.write = false → u.unchanged = false → u.next < u.beats → GeometryValid s.control.geometry →
    r.slot < s.control.geometry.slots → h.line < s.control.geometry.lines →
    u.addr + 4 * u.next = lineAddress s.control.geometry r.slot h.line q →
    q + 4 * (u.beats - u.next) ≤ 2 * s.control.geometry.samples →
    ∃ t r', exec (.memoryTransferComplete []) s = .next t ∧ t.delivery.held = none ∧ t.delivery.record = some r' ∧
      entryOf r' h.line = .handled ∧ r'.position = some h.line ∧ r'.holdTime = r.holdTime + h.ticks ∧
      r'.allowanceLeft = r.allowanceLeft - h.ticks ∧
      t.link.causes = (if r.holdBudget ≤ r.allowanceLeft ∧ r.allowanceLeft - h.ticks < r.holdBudget then s.link.causes ||| 0x200
        else s.link.causes) ∧
      t.reports.counters.linesRepaired = min (s.reports.counters.linesRepaired + 1) 4294967295 ∧
      t.reports.counters.holdExpiries = s.reports.counters.holdExpiries ∧
      (∃ p', findSpan t.toDevice j.slot j.first = some p' ∧ p'.tallies = addTally j.grade p.tallies ∧
        p.progress < p'.progress) ∧
      t.port.transfer = some { u with mode := .forwarding, holdAsked := false,
                                      inPart := lineTags h.line q (u.beats - u.next) } ∧
      t.arbiter = { onBus := some (forwarded u), passOver := false }

/-- A fetch of the gather completes (R104, R108, R109, R110), no burner transfer waiting. Its values go into its run's field record. With
fetches left, the next one's first transfer is on the memory side; a lost reference takes the reference fetches out of the list;
a span with nothing left is DONE with r where it was. With the last fetch the gather ends: motion figure and weight are formed
from the settings taken, and the first line is begun, by its temporal fetch if it has a usable source; with every line reached,
the lines are skipped and the span is DONE with r past its last line. That the rest of the job stands until a step forms it anew is the
model's choice (notes/assumptions/31.md). -/
def Obligations.GatherFetchesComplete : Prop :=
  ∀ (s : State) (m : MemTransfer) (l : List Beat) (j : Job) (p : Span) (f : Fetch) (rest : List Fetch) (values : List Nat)
    (fields : List FieldRecord), RunEnds s m l j p → j.phase = .gather → j.gather = f :: rest →
    values = sampleValues s.control.geometry.order (j.fetched ++ beatsBytes l) →
    fields = j.fields.map (fun x => if x.field = f.field then takeValues f.role values x else x) →
    (∀ f' rest', rest = f' :: rest' → reached s.toDevice j.slot j.last = false →
      isReferenceFetch f' = false ∨ referenceValid s.toDevice j.slot = true →
      exec (.memoryTransferComplete l) s = .next (withJobOnBus s { j with
        gather := rest, fields := fields, fetched := [], next := lineAddress s.control.geometry f'.slot f'.line 0,
        stop := lineAddress s.control.geometry f'.slot f'.line (2 * s.control.geometry.samples) })) ∧
    (∀ f' rest' f'' rest'', rest = f' :: rest' → reached s.toDevice j.slot j.last = false → isReferenceFetch f' = true →
      referenceValid s.toDevice j.slot = false → rest.filter (fun x => !isReferenceFetch x) = f'' :: rest'' →
      exec (.memoryTransferComplete l) s = .next (withJobOnBus s { j with
        gather := f'' :: rest'', fields := fields, fetched := [], next := lineAddress s.control.geometry f''.slot f''.line 0,
        stop := lineAddress s.control.geometry f''.slot f''.line (2 * s.control.geometry.samples) })) ∧
    (rest ≠ [] → reached s.toDevice j.slot j.last = true → s.engine.order = [] →
      exec (.memoryTransferComplete l) s = .next (withSpanDone s j 0)) ∧
    (rest = [] → (∀ i, i ≤ j.last → reached s.toDevice j.slot i = true) → s.engine.order = [] →
      exec (.memoryTransferComplete l) s = .next (withSpanDone s j (j.last + 1 - p.progress))) ∧
    (rest = [] → reached s.toDevice j.slot p.progress = false → ∃ k done,
      exec (.memoryTransferComplete l) s = .next (withJobOnBus s k) ∧
      done = fields.map (finishField s.control.geometry.samples j.tStill j.tMove j.wDefault) ∧
      k.fields = done ∧ k.gather = [] ∧
      (temporalUsable s.toDevice j.slot p.progress = true → k = { j with
        phase := .lineFetch, gather := [], fields := done, fetched := [],
        next := lineAddress s.control.geometry (referenceSlot s.control.geometry j.slot) p.progress 0,
        stop := lineAddress s.control.geometry (referenceSlot s.control.geometry j.slot) p.progress
          (2 * s.control.geometry.samples) }) ∧
      (temporalUsable s.toDevice j.slot p.progress = false → k.phase = .writeBack ∨ k.phase = .storedRead))

/-- The temporal fetch of line i, or the read of its stored samples, completes, no burner transfer waiting (R92, R96, R97, R99, R111 to
R114). A line not reached is computed, with the values fetched as temporal source if the reference is still valid, and its
output, grade and trailer bytes 0 to 3 are fixed; its write-back begins, or the read of its stored samples where there is no
output; after that read, trailer bytes 0 to 5 alone are written back. A line that the drain has reached is skipped. -/
def Obligations.LineFetchesComplete : Prop :=
  ∀ (s : State) (m : MemTransfer) (l : List Beat) (j : Job) (p : Span) (i : Nat) (bytes : List Byte), RunEnds s m l j p →
    i = p.progress → bytes = j.fetched ++ beatsBytes l →
    (∀ (x : FieldRecord) (out : Option (List Nat)) (grade : Nat) (head : List Byte), j.phase = .lineFetch →
      reached s.toDevice j.slot i = false →
      j.fields.find? (fun x => x.field == i % fieldDistance s.control.geometry) = some x →
      (out, grade) = combine (spatialValues (fieldDistance s.control.geometry) i x)
        (if referenceValid s.toDevice j.slot then some (sampleValues s.control.geometry.order bytes) else none)
        x.weight x.kind →
      head = engineHead s.control.geometry.order i s.control.repair.stationTag grade →
      (∀ values, out = some values → exec (.memoryTransferComplete l) s = .next (withJobOnBus s { j with
        phase := .writeBack, fetched := [], grade := grade, head := head,
        next := lineAddress s.control.geometry j.slot i 0,
        stop := lineAddress s.control.geometry j.slot i (2 * s.control.geometry.samples + 8),
        lanes := repairedLanes s.control.geometry values head })) ∧
      (out = none → exec (.memoryTransferComplete l) s = .next (withJobOnBus s { j with
        phase := .storedRead, fetched := [], grade := grade, head := head,
        next := lineAddress s.control.geometry j.slot i 0,
        stop := lineAddress s.control.geometry j.slot i (2 * s.control.geometry.samples), lanes := [] }))) ∧
    (j.phase = .lineFetch → reached s.toDevice j.slot i = true → i = j.last → s.engine.order = [] →
      exec (.memoryTransferComplete l) s = .next (withSpanDone s j 1)) ∧
    (j.phase = .storedRead → exec (.memoryTransferComplete l) s = .next (withJobOnBus s { j with
      phase := .writeBack, fetched := [],
      next := lineAddress s.control.geometry j.slot i (2 * s.control.geometry.samples),
      stop := lineAddress s.control.geometry j.slot i (2 * s.control.geometry.samples + 8),
      lanes := damagedLanes s.control.geometry bytes j.head }))

/-! ### Naming, references, decisions -/

/-- Under a valid geometry the address of line i of slot s at a line offset of the samples or the trailer is named as that
slot, line and offset; an address outside the ring is named so; and only line packets are named as lines (R18). -/
def Obligations.AddressesAreNamed : Prop :=
  ∀ g : Geometry, GeometryValid g →
    (∀ s i q, s < g.slots → i < g.lines → q < 2 * g.samples + 8 →
      nameAddress g (g.base + s * g.slotPitch + i * g.linePitch + q) = .line s i q) ∧
    (∀ a, a < g.base ∨ g.base + g.slots * g.slotPitch ≤ a → nameAddress g a = .outside) ∧
    (∀ a s i q, nameAddress g a = .line s i q → s < g.slots ∧ i < g.lines ∧ q < 2 * g.samples + 8 ∧
      a = g.base + s * g.slotPitch + i * g.linePitch + q) ∧
    (∀ a, nameAddress g a = .outside → a < g.base ∨ g.base + g.slots * g.slotPitch ≤ a)

/-- The redirect sources. The temporal reference of a slot is valid exactly while the slot before it is not EMPTY, holds the frame before
(2^32 - 1 before 0: that R39 holds there too, against R86, is the model's choice, notes/assumptions/27.md), and is neither STALE
nor LOSSY (R39); a line of it is usable exactly when it lies in no span (R40). The spatial
source is the nearest candidate of the same field above within the record's reach, or, with none there, the nearest below it in
the frame (R130). -/
def Obligations.RedirectSources : Prop :=
  (∀ (d : Device) (s i : Nat), 0 < d.control.geometry.slots → s < d.control.geometry.slots → ∃ before : Nat,
    before < d.control.geometry.slots ∧ (before + 1) % d.control.geometry.slots = s ∧
    (referenceValid d s = true ↔ (slotAt d before).state ≠ .empty ∧
      ((slotAt d before).frame.toNat + 1) % 4294967296 = (slotAt d s).frame.toNat ∧
      (slotAt d before).flags.stale = false ∧ (slotAt d before).flags.lossy = false) ∧
    (temporalUsable d s i = true ↔
      referenceValid d s = true ∧ ∀ p ∈ spansOf d before, ¬ (p.first ≤ i ∧ i ≤ p.last))) ∧
  (∀ (d : Device) (r : DrainRecord) (i : Nat), ∃ f : Nat, f = fieldDistance d.control.geometry ∧ (f = 1 ∨ f = 2) ∧
    (∀ k, spatialCandidate d r.slot k = true ↔
      (∀ p ∈ spansOf d r.slot, ¬ (p.first ≤ k ∧ k ≤ p.last)) ∧ unchecked (slotAt d r.slot) k = false) ∧
    (∀ j, spatialSource d r i = some j → ∃ m, 1 ≤ m ∧ m ≤ r.reach ∧ spatialCandidate d r.slot j = true ∧
      ((j + m * f = i ∧ ∀ n, 1 ≤ n → n < m → spatialCandidate d r.slot (i - n * f) = false) ∨
       (j = i + m * f ∧ j < d.control.geometry.lines ∧
        (∀ n, 1 ≤ n → n < m → spatialCandidate d r.slot (i + n * f) = false) ∧
        ∀ n, 1 ≤ n → n ≤ r.reach → n * f ≤ i → spatialCandidate d r.slot (i - n * f) = false))) ∧
    (spatialSource d r i = none → ∀ n, 1 ≤ n → n ≤ r.reach →
      (n * f ≤ i → spatialCandidate d r.slot (i - n * f) = false) ∧
      (i + n * f < d.control.geometry.lines → spatialCandidate d r.slot (i + n * f) = false)))

/-- A read beat at a slot's base (R35, R36, R38, R124, R164), with no slot DRAINING: a FILLED slot starts a drain: it is DRAINING,
its frame number is the drain frame number, pending repair settings apply, and a record with every line UNREACHED opens under
the settings then in force. The slot of an open fill does so with OVERTAKE, its unchecked-from line and the cause. Any other slot
starts nothing. The drain ends at the beat of trailer bytes 4 to 7 of line N-1 of the DRAINING slot and at no other beat asked
about (R37): the slot is DRAINED, the drain frame number is kept, and the record, COMPLETE, is the closing record until that beat
has passed (R126, R141); a record with no beat on its way is reported at once. -/
def Obligations.DrainsStartAndEnd : Prop :=
  (∀ (k : Nat) (d : Device), k < d.ring.slots.length → d.ring.draining = none →
    ((slotAt d k).state = .filled ∨ (slotAt d k).state = .filling → ∃ d' e r, baseRead k d = d' ∧
      slotAt d' k = e ∧ e.state = .draining ∧ e.frame = (slotAt d k).frame ∧
      ((slotAt d k).state = .filled → e.flags = (slotAt d k).flags ∧ e.uncheckedFrom = (slotAt d k).uncheckedFrom ∧
        d'.link = d.link) ∧
      ((slotAt d k).state = .filling → e.flags = { (slotAt d k).flags with overtake := true } ∧
        (∀ i, i < e.uncheckedFrom → i < d.checker.table.length → statusOf d i ≠ .unwritten ∧ statusOf d i ≠ .lineOpen) ∧
        (e.uncheckedFrom = d.control.geometry.lines ∨ statusOf d e.uncheckedFrom = .unwritten ∨
          statusOf d e.uncheckedFrom = .lineOpen) ∧
        d'.link = { d.link with causes := d.link.causes ||| 0x80 }) ∧
      (∀ s, s ≠ k → slotAt d' s = slotAt d s) ∧ d'.ring.draining = some k ∧
      d'.ring.drainFrame = (slotAt d k).frame ∧
      d'.control = (if d.control.settingsPending then
        { d.control with repair := clampRepair d.control.staged, settingsPending := false } else d.control) ∧
      d'.delivery = { d.delivery with record := some r } ∧
      r = { frame := (slotAt d k).frame, slot := k, endKind := .stillOpen, holdBudget := d'.control.repair.holdBudget,
            holdAllowance := d'.control.repair.holdAllowance, allowanceLeft := d'.control.repair.holdAllowance,
            stationTag := d'.control.repair.stationTag, reach := d'.control.repair.reach, position := none,
            lines := List.replicate d.control.geometry.lines .unreached, holdCount := 0, holdTime := 0,
            signature := 0xFFFFFFFF, unverified := 0, redirectedTally := 0, damagedTally := 0, inFlight := 0 } ∧
      d'.map = d.map ∧ d'.engine = d.engine ∧ d'.checker = d.checker ∧ d'.reports = d.reports) ∧
    ((slotAt d k).state = .empty ∨ (slotAt d k).state = .draining ∨ (slotAt d k).state = .drained → baseRead k d = d)) ∧
  (∀ (a : Nat) (d : Device), (askBeat a d).ends = true ↔ ∃ s i q, nameAddress d.control.geometry a = .line s i q ∧
    i + 1 = d.control.geometry.lines ∧ 2 * d.control.geometry.samples + 4 ≤ q ∧ q < 2 * d.control.geometry.samples + 8 ∧
    d.ring.draining = some s) ∧
  (∀ (k : Asked) (s : Nat) (r : DrainRecord), k.ends = true → k.tag ≠ none → k.device.ring.draining = some s →
    k.device.delivery.record = some r → k.device.delivery.closing = none → s < k.device.ring.slots.length →
    takeIn k = { k.device with
      ring := { k.device.ring with
        slots := k.device.ring.slots.set s { slotAt k.device s with state := .drained }, draining := none },
      delivery := { k.device.delivery with
        record := none, closing := some { r with endKind := .complete, inFlight := r.inFlight + 1 } } }) ∧
  (∀ (s : Nat) (r : DrainRecord) (d : Device), d.ring.draining = some s → d.delivery.record = some r →
    d.delivery.closing = none → r.inFlight = 0 → d.reports.queue.length < 32 → ∃ p,
      (endDrain d).delivery = { d.delivery with record := none } ∧ (endDrain d).ring.draining = none ∧
      (endDrain d).ring.drainFrame = d.ring.drainFrame ∧ (endDrain d).reports.queue = d.reports.queue ++ [p] ∧
      p.frame = r.frame ∧ p.endKind = .complete ∧ p.signature = r.signature ∧
      (endDrain d).reports.counters.framesDrained = min (d.reports.counters.framesDrained + 1) 4294967295)

/-- The context that a decision gives a line, by the rows of R128 in their order, a hold being given in no other case than row 4's.
That a line below r is HANDLED even at or past h of an overtaken slot, against the words of R129, and that h counts only with
OVERTAKE set, is the model's choice (notes/assumptions/10.md). -/
def Obligations.LinesAreDecided : Prop :=
  ∀ (d : Device) (r : DrainRecord) (i : Nat),
    (spanHolding d r.slot i = none →
      decideContext d r i = (if unchecked (slotAt d r.slot) i then .asStored else .clean)) ∧
    (∀ p, spanHolding d r.slot i = some p →
      (i < p.progress → entryOf r i ≠ .passedUnhandled → decideContext d r i = .handled) ∧
      (¬ (i < p.progress ∧ entryOf r i ≠ .passedUnhandled) →
        spoiled (slotAt d r.slot) = true ∨ unchecked (slotAt d r.slot) i = true → decideContext d r i = .asStored) ∧
      (spoiled (slotAt d r.slot) = false → unchecked (slotAt d r.slot) i = false → entryOf r i = .unreached →
        p.state = .active → p.progress = i → 0 < r.holdBudget → r.holdBudget ≤ r.allowanceLeft →
        decideContext d r i = .held) ∧
      (¬ (i < p.progress ∧ entryOf r i ≠ .passedUnhandled) →
        spoiled (slotAt d r.slot) = false → unchecked (slotAt d r.slot) i = false →
        ¬ (entryOf r i = .unreached ∧ p.state = .active ∧ p.progress = i ∧ 0 < r.holdBudget ∧
          r.holdBudget ≤ r.allowanceLeft) →
        (temporalUsable d r.slot i = true →
          decideContext d r i = .redirected (referenceSlot d.control.geometry r.slot) i) ∧
        (temporalUsable d r.slot i = false → ∀ j, spatialSource d r i = some j →
          decideContext d r i = .redirected r.slot j) ∧
        (temporalUsable d r.slot i = false → spatialSource d r i = none → decideContext d r i = .damaged))) ∧
    (decideContext d r i = .held → ∃ p, spanHolding d r.slot i = some p ∧ p.state = .active ∧ p.progress = i ∧
      entryOf r i = .unreached ∧ 0 < r.holdBudget ∧ r.holdBudget ≤ r.allowanceLeft)

/-! ### Checking and the damage map -/

/-- The worked values of the two checks: over the bytes 0x31 to 0x39 the CRC-16 of R46 is 0x29B1 and the CRC-32 of R140 is
0x0376E6E7. -/
def Obligations.CheckValues : Prop :=
  crc16 0xFFFF [0x31, 0x32, 0x33, 0x34, 0x35, 0x36, 0x37, 0x38, 0x39] = 0x29B1 ∧
  crc32 0xFFFFFFFF [0x31, 0x32, 0x33, 0x34, 0x35, 0x36, 0x37, 0x38, 0x39] = 0x0376E6E7

/-- The beats of the open fill slot (R49 to R55). A continuing sample beat enters the running check word and counts its illegal words;
a continuing trailer bytes 0 to 3 beat enters it too and leaves its line number and deck flags (R50). Any other beat of the open line
makes the line TORN and does no more; a beat of another line does so first and is then taken at its own line (R53). With no line open,
a first beat with full enables opens an UNWRITTEN line and any other makes it TORN; a beat of a line that was judged makes it
REWRITTEN; a TORN or REWRITTEN line stays as it is (R54).
Line end (R51, R52): at the trailer bytes 4 to 7 beat that continues the open line, the line takes each cause whose
condition holds; with none it is PASSED and the map is as before; with some it is FAILED and recorded in its slot. It is
counted checked, and chroma if its flags say so, and the context is empty. A hand-over is recorded in the map and, but for the
REWRITE of a FAILED line, counted damaged (R55); a line that needs a record in a slot with no span, with no record free, is lost: the
slot becomes LOSSY, the line is counted lost and DAMAGE_LOST is raised; no other is (R72, R73). The lines absorbed are counted (R73).
And WRITE_BEAT_ACCEPTED does this to the part, with the normal close after it at the last beat of line N-1 (R31); that the engine
examines the order after both is the model's choice (notes/assumptions/8.md). -/
def Obligations.LineBeatsAreJudged : Prop :=
  (∀ (b : Beat) (e : Enables) (s : State) (u : BurnerTransfer) (k i q : Nat) (d d' : Device), WritesLine s u k i q →
    ¬ (u.next = 0 ∧ i = 0 ∧ q = 0) → s.ring.fillSlot = some k → s.ring.fillOpen = true →
    d = checkBeat k i q b e (withBeatAccepted s u b e) →
    d' = (if i + 1 = s.control.geometry.lines ∧ 2 * s.control.geometry.samples + 4 ≤ q ∧ e.en0 = true ∧ e.en1 = true
      then closeFill k false d else d) →
    exec (.writeBeatAccepted b e) s = .next { s with toDevice := wakeEngine d' }) ∧
  (∀ (s i q : Nat) (b : Beat) (e : Enables) (d : Device) (c : OpenLine) (whole : Prop), d.checker.context = some c →
    (whole ↔ e.en0 = true ∧ e.en1 = true ∧
      (2 * d.control.geometry.samples + 4 ≤ q ∨ e.en2 = true ∧ e.en3 = true)) → q < 2 * d.control.geometry.samples + 8 →
    (c.line = i → c.next = q → whole → q < 2 * d.control.geometry.samples →
      checkBeat s i q b e d = { d with checker := { d.checker with context := some { c with
        next := q + 4, crc := crc16 c.crc (beatBytes b),
        illegal := c.illegal + ((packetWords d.control.geometry.order (beatBytes b)).filter fun x =>
          decide (x < d.control.geometry.lo ∨ d.control.geometry.hi < x)).length } } }) ∧
    (c.line = i → c.next = q → whole → 2 * d.control.geometry.samples ≤ q → q < 2 * d.control.geometry.samples + 4 →
      checkBeat s i q b e d = { d with checker := { d.checker with context := some { c with
        next := q + 4, crc := crc16 c.crc (beatBytes b),
        stored := some { number := packetWord d.control.geometry.order b.lane0 b.lane1, deck := b.lane2 } } } }) ∧
    (∀ torn : Device, torn = handOver s c.line { Causes.nil with torn := true } true
        { d with checker := { context := none, table := d.checker.table.set c.line .torn } } →
      (c.line = i → ¬ (c.next = q ∧ whole) → checkBeat s i q b e d = torn) ∧
      (c.line ≠ i → torn.checker.context = none ∧ checkBeat s i q b e d = checkBeat s i q b e torn))) ∧
  (∀ (s i q : Nat) (b : Beat) (e : Enables) (d : Device), d.checker.context = none →
    (statusOf d i = .unwritten → q = 0 → e = ⟨true, true, true, true⟩ →
      ∃ n, n = ((packetWords d.control.geometry.order (beatBytes b)).filter fun x =>
          decide (x < d.control.geometry.lo ∨ d.control.geometry.hi < x)).length ∧
        checkBeat s i q b e d = { d with checker :=
          { context := some { line := i, next := 4, crc := crc16 0xFFFF (beatBytes b), illegal := n, stored := none },
            table := d.checker.table.set i .lineOpen } }) ∧
    (statusOf d i = .unwritten → ¬ (q = 0 ∧ e = ⟨true, true, true, true⟩) →
      checkBeat s i q b e d = handOver s i { Causes.nil with torn := true } true
        { d with checker := { d.checker with table := d.checker.table.set i .torn } }) ∧
    (statusOf d i = .passed ∨ statusOf d i = .failed → checkBeat s i q b e d =
      handOver s i { Causes.nil with rewrite := true } (decide (statusOf d i = .passed))
        { d with checker := { d.checker with table := d.checker.table.set i .rewritten } }) ∧
    (statusOf d i = .torn ∨ statusOf d i = .rewritten → checkBeat s i q b e d = d)) ∧
  (∀ (s i : Nat) (c : Causes) (first : Bool) (d : Device), ∃ r,
    r = recordLine (spansOf d s) (decide ((d.map.spans.map List.length).sum < 1024)) i c first ∧
    handOver s i c first d = { d with
      map := { d.map with spans := d.map.spans.set s r.spans },
      ring := if r.lost then { d.ring with slots := d.ring.slots.set s { slotAt d s with
        flags := { (slotAt d s).flags with lossy := true } } } else d.ring,
      link := if r.lost then { d.link with causes := d.link.causes ||| 0x20 } else d.link,
      reports := { d.reports with counters := { d.reports.counters with
        linesDamaged := if first then min (d.reports.counters.linesDamaged + 1) 4294967295
          else d.reports.counters.linesDamaged,
        linesAbsorbed := min (d.reports.counters.linesAbsorbed + r.absorbed) 4294967295,
        linesLost := if r.lost && first then min (d.reports.counters.linesLost + 1) 4294967295
          else d.reports.counters.linesLost } } }) ∧
  (∀ (s i q : Nat) (b : Beat) (e : Enables) (d : Device) (c : OpenLine) (w : StoredTrailer),
      d.checker.context = some c → c.line = i → c.next = q → q = 2 * d.control.geometry.samples + 4 →
      c.stored = some w → e.en0 = true → e.en1 = true → i < d.checker.table.length → s < d.map.spans.length →
      ∃ (d' : Device) (k : Causes), checkBeat s i q b e d = d' ∧
        (k.check = true ↔ c.crc.toNat ≠ packetWord d.control.geometry.order b.lane0 b.lane1) ∧
        (k.deck = true ↔ w.deck.getLsbD 0 = true ∨ w.deck.getLsbD 1 = true) ∧
        (k.range = true ↔ d.control.repair.tolerance < c.illegal) ∧ (k.number = true ↔ w.number ≠ i) ∧
        k.torn = false ∧ k.rewrite = false ∧ k.missing = false ∧ d'.checker.context = none ∧
        d'.reports.counters.linesChecked = min (d.reports.counters.linesChecked + 1) 4294967295 ∧
        d'.reports.counters.chromaLines = (if w.deck.getLsbD 2 then min (d.reports.counters.chromaLines + 1) 4294967295
          else d.reports.counters.chromaLines) ∧
        (k = Causes.nil → d'.map = d.map ∧ d'.checker.table = d.checker.table.set i .passed ∧
          d'.reports.counters.linesDamaged = d.reports.counters.linesDamaged) ∧
        (k ≠ Causes.nil → d'.checker.table = d.checker.table.set i .failed ∧
          d'.map.spans = d.map.spans.set s
            (recordLine (spansOf d s) (decide ((d.map.spans.map List.length).sum < 1024)) i k true).spans ∧
          d'.reports.counters.linesDamaged = min (d.reports.counters.linesDamaged + 1) 4294967295 ∧
          d'.reports.counters.linesAbsorbed = min (d.reports.counters.linesAbsorbed +
            (recordLine (spansOf d s) (decide ((d.map.spans.map List.length).sum < 1024)) i k true).absorbed) 4294967295 ∧
          (spansOf d s = [] ∧ 1024 ≤ (d.map.spans.map List.length).sum →
            d'.ring = { d.ring with slots := d.ring.slots.set s { slotAt d s with
              flags := { (slotAt d s).flags with lossy := true } } } ∧
            d'.reports.counters.linesLost = min (d.reports.counters.linesLost + 1) 4294967295 ∧
            d'.link = { d.link with causes := d.link.causes ||| 0x20 }) ∧
          (¬ (spansOf d s = [] ∧ 1024 ≤ (d.map.spans.map List.length).sum) →
            d'.ring = d.ring ∧ d'.reports.counters.linesLost = d.reports.counters.linesLost ∧ d'.link = d.link)))

/-- The close of a fill (R26, R57, R74): a FILLING slot becomes FILLED, or an overtaken one keeps its state, with SEEK set after a
loss; an open line becomes TORN, then every UNWRITTEN line MISSING, each counted damaged; every span of the slot is QUEUED, and the
order gains them at its tail; unless the slot is then LOSSY, the spans QUEUED hold each of these lines with its cause, so the lines are
recorded before; the frame is counted and the fill is no longer open. -/
def Obligations.FillsCloseAndQueueTheirSpans : Prop :=
  ∀ (f : Nat) (lost : Bool) (d : Device), f < d.ring.slots.length → ∃ d', closeFill f lost d = d' ∧
    (slotAt d' f).state = (if (slotAt d f).state = .filling then .filled else (slotAt d f).state) ∧
    (slotAt d' f).frame = (slotAt d f).frame ∧
    (slotAt d' f).flags.seek = ((slotAt d f).flags.seek || lost) ∧
    (∀ s, s ≠ f → slotAt d' s = slotAt d s) ∧ d'.ring.fillOpen = false ∧ d'.ring.fillSlot = d.ring.fillSlot ∧
    (d.checker.context = none → d'.checker =
      { context := none, table := d.checker.table.map fun x => if x = .unwritten then .missing else x }) ∧
    (∀ c, d.checker.context = some c → d'.checker =
      { context := none, table := (d.checker.table.set c.line .torn).map fun x => if x = .unwritten then .missing else x }) ∧
    (SpanListWf (spansOf d f) → f < d.map.spans.length → (slotAt d' f).flags.lossy = false →
      (∀ c, d.checker.context = some c → ∃ p ∈ spansOf d' f, holdsLine c.line p = true ∧ p.causes.torn = true) ∧
      (∀ i, d.checker.table[i]? = some .unwritten → (∀ c, d.checker.context = some c → c.line ≠ i) →
        ∃ p ∈ spansOf d' f, holdsLine i p = true ∧ p.causes.missing = true) ∧
      (∀ i, (spansOf d f).any (holdsLine i) = true → (spansOf d' f).any (holdsLine i) = true)) ∧
    (∀ table : List LineStatus, d.reports.counters.linesDamaged ≤ 4294967295 →
      table = d.checker.context.elim d.checker.table (fun c => d.checker.table.set c.line .torn) →
      d'.reports.counters.linesDamaged = min (d.reports.counters.linesDamaged + (if d.checker.context = none then 0 else 1) +
        (table.filter fun x => decide (x = .unwritten)).length) 4294967295) ∧
    (∀ p ∈ spansOf d' f, p.state = .queued) ∧ (∀ s, s ≠ f → spansOf d' s = spansOf d s) ∧
    d'.engine = { d.engine with order := d.engine.order ++ (spansOf d' f).map fun p => { slot := f, first := p.first } } ∧
    d'.reports.counters.framesFilled = min (d.reports.counters.framesFilled + 1) 4294967295 ∧
    d'.control = d.control ∧ d'.port = d.port ∧ d'.arbiter = d.arbiter ∧ d'.delivery = d.delivery

/-- Recording a line (R65 to R72): a list as R63 has it stays so; the line lies in a span that has its causes, unless the slot
had no span and the pool no record, when it is lost and the list unchanged; no recorded line leaves the spans; a record is
taken only if one is free; and a line that lay in no span adds itself and the lines absorbed on its account to the spans'
lengths. No span's causes are given up, and where no line is absorbed the spans hold the lines they held and this one alone. A line
away from every span is by itself in a slot with fewer than 24 spans and a record free (R68). With 24 spans, of the 24 spans and the
line as 25 items the pair with the smallest gap is merged, of equal gaps the one nearest line 0 (R69, R70). With fewer and no record
free, the nearest span is stretched to it, of two as near the one above, and no other span changes (R71). -/
def Obligations.RecordingKeepsEveryLine : Prop :=
  ∀ (l : List Span) (free : Bool) (i : Nat) (c : Causes) (first : Bool), SpanListWf l →
    ∃ r, r = recordLine l free i c first ∧ SpanListWf r.spans ∧
      (r.lost = true ↔ l = [] ∧ free = false) ∧ (r.lost = true → r.spans = l) ∧
      (r.lost = false → ∃ p ∈ r.spans, holdsLine i p = true ∧ p.causes.union c = p.causes) ∧
      (∀ k, l.any (holdsLine k) = true → r.spans.any (holdsLine k) = true) ∧
      (l.length < r.spans.length → free = true ∧ r.spans.length = l.length + 1) ∧
      (l.any (holdsLine i) = true → r.absorbed = 0 ∧ (r.spans.map spanLength).sum = (l.map spanLength).sum) ∧
      (l.any (holdsLine i) = false → r.lost = false →
        (r.spans.map spanLength).sum = (l.map spanLength).sum + 1 + r.absorbed ∧
        (r.spans.map fun p => p.absorbed).sum = (l.map fun p => p.absorbed).sum + r.absorbed) ∧
      (∀ p ∈ l, ∃ q ∈ r.spans, q.first ≤ p.first ∧ p.last ≤ q.last ∧ p.causes.union q.causes = q.causes) ∧
      (r.absorbed = 0 → r.lost = false → ∀ k, r.spans.any (holdsLine k) = (l.any (holdsLine k) || k == i)) ∧
      ((∀ p ∈ l, i + 1 < p.first ∨ p.last + 1 < i) → ∀ items, items = itemsAround l i →
        (l.length < 24 → free = true → r.absorbed = 0 ∧ r.spans.map (fun p => (p.first, p.last)) = items) ∧
        (l.length = 24 → ∃ k, k < 24 ∧ r.absorbed = gapAfter items k ∧
          (∀ n, n < 24 → gapAfter items k ≤ gapAfter items n) ∧ (∀ n, n < k → gapAfter items k < gapAfter items n) ∧
          r.spans.map (fun p => (p.first, p.last)) =
            items.take k ++ ((items.getD k (0, 0)).1, (items.getD (k + 1) (0, 0)).2) :: items.drop (k + 2)) ∧
        (l ≠ [] → l.length < 24 → free = false → ∃ p ∈ l, r.absorbed = distanceTo i p ∧
          (∀ q ∈ l, distanceTo i p ≤ distanceTo i q) ∧ (∀ q ∈ l, distanceTo i q = distanceTo i p → q = p ∨ p.last < i) ∧
          r.spans = l.map fun q => if q = p then { q with
            first := min q.first i, last := max q.last i, progress := if i < q.first then i else q.progress,
            causes := q.causes.union c, absorbed := q.absorbed + distanceTo i q } else q))

/-! ### Concealment and the engine -/

/-- The weight of a field run, row by row, and its range (R88): it comes from the run's motion figure and from the three settings that
the job took from the active copy at its gather, whatever the active copy is at the gather's end, and is kept in the field
record with M. -/
def Obligations.WeightFollowsMotion : Prop :=
  (∀ tStill tMove wDefault : Nat, wDefault ≤ 16 →
    weightOf tStill tMove wDefault none = wDefault ∧
    (∀ m, tMove ≤ tStill → m ≤ tStill → weightOf tStill tMove wDefault (some m) = 16) ∧
    (∀ m, tMove ≤ tStill → tStill < m → weightOf tStill tMove wDefault (some m) = 0) ∧
    (∀ m, m ≤ tStill → weightOf tStill tMove wDefault (some m) = 16) ∧
    (∀ m, tStill < m → tMove ≤ m → weightOf tStill tMove wDefault (some m) = 0) ∧
    (∀ m, tStill < m → m < tMove →
      weightOf tStill tMove wDefault (some m) = 16 * (tMove - m) / (tMove - tStill) ∧
      weightOf tStill tMove wDefault (some m) ≤ 15) ∧
    (∀ m m', m ≤ m' → weightOf tStill tMove wDefault (some m') ≤ weightOf tStill tMove wDefault (some m)) ∧
    (∀ x, weightOf tStill tMove wDefault x ≤ 16)) ∧
  (∀ (samples tStill tMove wDefault : Nat) (f : FieldRecord), ∃ f', f' = finishField samples tStill tMove wDefault f ∧
    f'.motion = (if f.pairs = 0 then none else some (f.diff / (samples * f.pairs))) ∧
    f'.weight = weightOf tStill tMove wDefault f'.motion) ∧
  (∀ (d : Device) (s : Nat) (p : Span), ∃ j, j = layOutJob d s p ∧ j.tStill = d.control.repair.tStill ∧
    j.tMove = d.control.repair.tMove ∧ j.wDefault = d.control.repair.wDefault) ∧
  (∀ (d : Device) (j : Job), ∃ k, endGather j d = beginLines k (setJob k d) ∧
    k = { j with fields := j.fields.map (finishField d.control.geometry.samples j.tStill j.tMove j.wDefault) })

/-- The spatial value between two boundary lines is the linear interpolation rounded half up, column by column, at a position p of 1 to
k, and lies between the boundary values, kind INTERPOLATION (R89); with one boundary line it is that line's, kind EDGE COPY, and
with none it is absent, kind NONE (R90). -/
def Obligations.SpatialValues : Prop :=
  (∀ (step i a b : Nat) (f : FieldRecord), f.above = some a → f.below = some b →
    spatialValues step i f = some (List.zipWith (fun x y =>
      (x * ((b - a) / step - 1 + 1 - (i - a) / step) + y * ((i - a) / step) + ((b - a) / step - 1 + 1) / 2)
        / ((b - a) / step - 1 + 1)) f.aboveValues f.belowValues)) ∧
  (∀ (step i a : Nat) (f : FieldRecord), f.above = some a → f.below = none →
    spatialValues step i f = some f.aboveValues) ∧
  (∀ (step i b : Nat) (f : FieldRecord), f.above = none → f.below = some b →
    spatialValues step i f = some f.belowValues) ∧
  (∀ (step i : Nat) (f : FieldRecord), f.above = none → f.below = none → spatialValues step i f = none) ∧
  (∀ step i a b : Nat, 0 < step → a < i → i < b → (i - a) % step = 0 → (b - i) % step = 0 →
    1 ≤ (i - a) / step ∧ (i - a) / step ≤ (b - a) / step - 1) ∧
  (∀ k p x y : Nat, 1 ≤ p → p ≤ k → min x y ≤ interpolate k p x y ∧ interpolate k p x y ≤ max x y ∧
    2 * (k + 1) * interpolate k p x y ≤ 2 * (x * (k + 1 - p) + y * p) + (k + 1) ∧
    2 * (x * (k + 1 - p) + y * p) < 2 * (k + 1) * interpolate k p x y + (k + 1) + 1) ∧
  (∀ (d : Device) (s reach : Nat) (run : Nat × Nat), ∃ f, f = makeField d s reach run ∧
    (f.kind = .interpolation ↔ f.above ≠ none ∧ f.below ≠ none) ∧
    (f.kind = .edgeCopy ↔ (f.above = none ↔ f.below ≠ none)) ∧
    (f.kind = .none ↔ f.above = none ∧ f.below = none))

/-- A line's output and grade from its spatial and temporal values, its weight and its spatial kind, by the rows of R92; at weight 16
the blend is the temporal value, at 0 the spatial one, and it lies between the two. -/
def Obligations.OutputsAndGrades : Prop :=
  (∀ (x t : List Nat) (w : Nat) (k : SpatialKind), w ≤ 16 →
    combine (some x) (some t) w k = (some (List.zipWith (fun tv sv => (w * tv + (16 - w) * sv + 8) / 16) t x),
      if w = 16 then 1 else if 0 < w then 2 else if k = .interpolation then 3 else if k = .edgeCopy then 4 else 6)) ∧
  (∀ (x : List Nat) (w : Nat), combine (some x) none w .interpolation = (some x, 3) ∧
    combine (some x) none w .edgeCopy = (some x, 4)) ∧
  (∀ (t : List Nat) (w : Nat) (k : SpatialKind), combine none (some t) w k = (some t, 1)) ∧
  (∀ (w : Nat) (k : SpatialKind), combine none none w k = (none, 6)) ∧
  (∀ tv sv : Nat, blend 16 tv sv = tv ∧ blend 0 tv sv = sv) ∧
  (∀ w tv sv : Nat, w ≤ 16 → min tv sv ≤ blend w tv sv ∧ blend w tv sv ≤ max tv sv) ∧
  (∀ w tv sv : Nat, w ≤ 16 → tv ≤ 1023 → sv ≤ 1023 → blend w tv sv ≤ 1023)

/-- Every value written lies in the legal range, unchanged where it lay in it (R94). The write-back of a line of grade 1 to 4 covers its
samples, clamped, and trailer bytes 0 to 5: line number, deck flags 0, mark byte, and a check word over exactly the bytes written
before it; the fill bytes are not enabled (R96, R180). -/
def Obligations.RepairedLineIsConsistent : Prop :=
  (∀ (g : Geometry) (v : Nat), g.lo < g.hi → g.lo ≤ clampSample g v ∧ clampSample g v ≤ g.hi ∧
    (v < g.lo → clampSample g v = g.lo) ∧ (g.hi < v → clampSample g v = g.hi) ∧
    (g.lo ≤ v → v ≤ g.hi → clampSample g v = v)) ∧
  (∀ (g : Geometry) (values : List Nat) (i tag grade : Nat), values.length = g.samples → g.lo < g.hi → g.hi ≤ 1023 →
    i < 2048 → tag ≤ 15 → grade ≤ 6 → ∃ body : List Byte,
    repairedLanes g values (engineHead g.order i tag grade) =
      body.map some ++ [some (lowerByte g.order (crc16 0xFFFF body).toNat), some (upperByte g.order (crc16 0xFFFF body).toNat),
        none, none] ∧
    body.length = 2 * g.samples + 4 ∧
    packetWords g.order (body.take (2 * g.samples)) = values.map (clampSample g) ∧
    packetWord g.order (body.getD (2 * g.samples) 0) (body.getD (2 * g.samples + 1) 0) = i ∧
    body.getD (2 * g.samples + 2) 0 = 0 ∧ (body.getD (2 * g.samples + 3) 0).toNat = tag * 16 + grade ∧
    packetWord g.order (lowerByte g.order (crc16 0xFFFF body).toNat) (upperByte g.order (crc16 0xFFFF body).toNat)
      = (crc16 0xFFFF body).toNat)

/-- The engine cuts a run into transfers of 1 to 16 beats that cross no 64-byte boundary, each as long as the boundary or the
run's end allows, and issues them as reads, or in the write-back as writes of the run's next bytes (R106, R114). IDLE in a run it
examines the head of the order (R104): a span with its last line reached becomes DONE and the next is examined; any other becomes
ACTIVE, with a job laid out under the settings in force and its first fetch claimed if it has one. With a job, an empty order or no
run it does nothing. -/
def Obligations.EngineTakesSpansAndCutsRuns : Prop :=
  (∀ j : Job, j.next % 4 = 0 → j.stop % 4 = 0 → j.next < j.stop → ∃ m, m = engineTransfer j ∧
      m.byEngine = true ∧ m.addr = j.next ∧ 1 ≤ m.beats ∧ m.beats ≤ 16 ∧
      m.addr / 64 = (m.addr + 4 * m.beats - 1) / 64 ∧ m.addr + 4 * m.beats ≤ j.stop ∧
      (m.addr + 4 * m.beats = j.stop ∨ (m.addr + 4 * m.beats) % 64 = 0) ∧
      (m.write = true ↔ j.phase = .writeBack) ∧ (m.write = true → m.lanes = j.lanes.take (4 * m.beats)) ∧
      (m.write = false → m.lanes = [])) ∧
  (∀ d : Device, d.control.run ≠ .running ∨ d.engine.job ≠ none ∨ d.engine.order = [] → wakeEngine d = d) ∧
  (∀ (d : Device) (h : SpanRef) (rest : List SpanRef) (p : Span) (marked : SpanState → DamageMap), d.control.run = .running →
    d.engine.job = none → d.engine.order = h :: rest → findSpan d h.slot h.first = some p →
    (∀ x, marked x = { d.map with spans := d.map.spans.set h.slot ((spansOf d h.slot).map fun q =>
      if q.first = h.first then { q with state := x } else q) }) →
    (reached d h.slot p.last = true →
      wakeEngine d = wakeEngine { d with engine := { d.engine with order := rest }, map := marked .done }) ∧
    (∀ (j : Job) (f : Fetch) (more : List Fetch), reached d h.slot p.last = false →
      j = layOutJob { d with engine := { d.engine with order := rest } } h.slot p → j.gather = f :: more →
      j.slot = h.slot ∧ j.first = p.first ∧ j.last = p.last ∧ j.phase = .gather ∧ j.reach = d.control.repair.reach ∧
      wakeEngine d = { d with engine := { order := rest, job := some j, claiming := true }, map := marked .active }))

/-- The last transfer of the write-back of line r completes, no burner transfer waiting and no read held (R110, R112, R115). The line
is tallied at its grade and counted repaired, unless the drain has reached it: then neither. Reached lines after it are skipped, and
the first other line is begun: by its temporal fetch if it has a usable source, else it is computed with no temporal values and its
write-back, or the read of its stored samples, begins. With no such line the span is DONE with r past its last line, and the engine is
IDLE. That the grade and trailer of the last line stand in the job until the next is computed is the model's choice
(notes/assumptions/31.md). -/
def Obligations.WriteBacksEndTheirLine : Prop :=
  (∀ (s : State) (m : MemTransfer) (j : Job) (p : Span), s.arbiter.onBus = some m → m.byEngine = true → m.orphan = false →
      m.write = true → s.engine = { order := [], job := some j, claiming := false } → j.phase = .writeBack →
      j.stop ≤ j.next + 4 * m.beats → (slotAt s.toDevice j.slot).state = .filled → s.delivery.held = none →
      findSpan s.toDevice j.slot j.first = some p → p.progress = j.last → portState s.toDevice ≠ .waiting →
      j.slot < s.map.spans.length →
      exec (.memoryTransferComplete []) s = .next { s with
        arbiter := { s.arbiter with onBus := none },
        engine := { order := [], job := none, claiming := false },
        map := { s.map with spans := s.map.spans.set j.slot ((spansOf s.toDevice j.slot).map fun q =>
          if q.first = j.first then
            { q with state := .done, progress := q.progress + 1, tallies := addTally j.grade q.tallies }
          else q) },
        reports := { s.reports with counters := { s.reports.counters with
          linesRepaired := min (s.reports.counters.linesRepaired + 1) 4294967295 } } }) ∧
  (∀ (s : State) (m : MemTransfer) (j : Job) (p : Span) (i : Nat) (counted : Bool), s.arbiter.onBus = some m →
    m.byEngine = true → m.orphan = false → m.write = true → s.engine.job = some j → s.engine.claiming = false →
    j.phase = .writeBack → j.stop ≤ j.next + 4 * m.beats → s.delivery.held = none → portState s.toDevice ≠ .waiting →
    findSpan s.toDevice j.slot j.first = some p → p.progress = i → i ≤ j.last → j.slot < s.map.spans.length →
    counted = !reached s.toDevice j.slot i →
    ((∀ n, i < n → n ≤ j.last → reached s.toDevice j.slot n = true) → s.engine.order = [] →
      exec (.memoryTransferComplete []) s = .next (withSpanDone (withLinesPast s j 0 counted) j (j.last + 1 - i))) ∧
    (∀ n, i < n → n ≤ j.last → (∀ x, i < x → x < n → reached s.toDevice j.slot x = true) →
      reached s.toDevice j.slot n = false →
      (temporalUsable s.toDevice j.slot n = true → exec (.memoryTransferComplete []) s = .next
        (withJobOnBus (withLinesPast s j (n - i) counted) { j with
          phase := .lineFetch, fetched := [], lanes := j.lanes.drop (4 * m.beats),
          next := lineAddress s.control.geometry (referenceSlot s.control.geometry j.slot) n 0,
          stop := lineAddress s.control.geometry (referenceSlot s.control.geometry j.slot) n
            (2 * s.control.geometry.samples) })) ∧
      (∀ (x : FieldRecord) (out : Option (List Nat)) (grade : Nat) (head : List Byte),
        temporalUsable s.toDevice j.slot n = false →
        j.fields.find? (fun x => x.field == n % fieldDistance s.control.geometry) = some x →
        (out, grade) = combine (spatialValues (fieldDistance s.control.geometry) n x) none x.weight x.kind →
        head = engineHead s.control.geometry.order n s.control.repair.stationTag grade →
        (∀ values, out = some values → exec (.memoryTransferComplete []) s = .next
          (withJobOnBus (withLinesPast s j (n - i) counted) { j with
            phase := .writeBack, fetched := [], grade := grade, head := head,
            next := lineAddress s.control.geometry j.slot n 0,
            stop := lineAddress s.control.geometry j.slot n (2 * s.control.geometry.samples + 8),
            lanes := repairedLanes s.control.geometry values head })) ∧
        (out = none → exec (.memoryTransferComplete []) s = .next
          (withJobOnBus (withLinesPast s j (n - i) counted) { j with
            phase := .storedRead, fetched := [], grade := grade, head := head,
            next := lineAddress s.control.geometry j.slot n 0,
            stop := lineAddress s.control.geometry j.slot n (2 * s.control.geometry.samples), lanes := [] })))))
end

