-- ==== Sys2Proof/Laws/Arbiter.lean ====
section
/-! SUPPORT. What the arbiter does where it does little, and how a read's beats are taken where none belongs to a drain, said once:
proofs about the bus cite these before they unfold `arbitrate` or `formPart`. -/

namespace Sys2Proof.Machine

/-- With no claim waiting the arbiter grants nothing (R13). -/
theorem arbitrate_idle {d : Device} (h1 : d.engine.claiming = false) (h2 : portState d ≠ .waiting) : arbitrate d = d := by
  have h3 : burnerClaim d = false := by simp [burnerClaim, h2]
  simp [arbitrate, grantEngineIfFree, grantBurnerIfFree, h1, h3]

/-- With a transfer on the memory side the arbiter grants nothing (R13). -/
theorem arbitrate_busy {d : Device} (h : d.arbiter.onBus ≠ none) : arbitrate d = d := by
  unfold arbitrate
  rw [if_pos]
  cases hb : d.arbiter.onBus <;> simp_all

/-- With the burner's claim alone waiting and the memory side free, it is granted (R13). -/
theorem arbitrate_burner {d : Device} (h1 : d.arbiter.onBus = none) (h2 : d.engine.claiming = false)
    (h3 : portState d = .waiting) :
    arbitrate d = grantEngineIfFree (grantBurner d) := by
  have h4 : burnerClaim d = true := by simp [burnerClaim, h3]
  simp [arbitrate, grantBurnerIfFree, h1, h2, h4]

/-- With the engine's claim alone waiting and the memory side free, it is granted (R13). -/
theorem arbitrate_engine {d : Device} (h1 : d.arbiter.onBus = none) (h2 : d.engine.claiming = true)
    (h3 : portState d ≠ .waiting) : arbitrate d = grantEngine d := by
  have h4 : burnerClaim d = false := by simp [burnerClaim, h3]
  simp [arbitrate, grantEngineIfFree, grantBurnerIfFree, h1, h2, h4]

/-- A beat that is no beat of the DRAINING slot and starts no drain is read as it is asked for (R6). -/
theorem askBeat_untouched {d : Device} {a : Nat} (h : passesUntouched d a) :
    askBeat a d = { device := d, treatment := .readAt a, tag := none, ends := false } := by
  unfold askBeat
  simp only
  split
  · rfl
  · rfl
  · rename_i s i q hn
    obtain ⟨h1, h2⟩ := h s i q hn
    have h3 : (if (i == 0 && q == 0) = true then baseRead s d else d) = d := by
      split
      · rename_i hc
        simp at hc
        obtain ⟨h4, h5⟩ := h2 hc.1 hc.2
        unfold baseRead
        cases hs : (slotAt d s).state <;> simp_all
      · rfl
    simp only [h3]
    simp [h1]

/-- A read of such beats forms one part of all of them and leaves the part as it is (R7). -/
theorem formPart_untouched {d : Device} {n a : Nat} {f : Option Nat} (h : ∀ k, k < n → passesUntouched d (a + 4 * k))
    (hf : f = none ∨ f = some a) :
    (formPart n a f d).device = d ∧ (0 < n → (formPart n a f d).start = some a)
      ∧ (formPart n a f d).tags = List.replicate n none ∧ (formPart n a f d).hold = false := by
  induction n generalizing a f with
  | zero => simp [formPart]
  | succ n ih =>
    have h0 := askBeat_untouched (d := d) (a := a) (by simpa using h 0 (by omega))
    have ht : takeIn { device := d, treatment := .readAt a, tag := none, ends := false } = d := by simp [takeIn]
    have hr := ih (a := a + 4) (f := some (a + 4)) (fun k hk => by
      have := h (k + 1) (by omega)
      rwa [show a + 4 * (k + 1) = a + 4 + 4 * k by ring] at this) (.inr rfl)
    simp only [formPart, h0]
    rw [if_pos hf, ht]
    exact ⟨hr.1, fun _ => rfl, by simp [hr.2.2.1, List.replicate_succ], hr.2.2.2⟩

end Sys2Proof.Machine
end

