-- ==== Sys2Proof/Laws/Engine.lean ====
section
/-! SUPPORT. What follows when a transfer of the engine's job completes, said once: the tests between two transfers of a gather, and the
grant of the job's next transfer. A proof about a fetch's completion cites these and unfolds neither `arbitrate` nor
`continueGather`. -/

namespace Sys2Proof.Machine

/-- With no fetch left the gather ends, whatever the drain has reached (R109). -/
@[simp] theorem continueGather_nil {j : Job} {d : Device} (h : j.gather = []) : continueGather j d = endGather j d := by
  simp [continueGather, h]

/-- With a fetch left and the span's last line reached, the span has nothing left (R108). -/
theorem continueGather_reached {j : Job} {d : Device} (h : j.gather ≠ []) (hr : reached d j.slot j.last = true) :
    continueGather j d = finishSpan j d := by
  cases hg : j.gather with
  | nil => exact absurd hg h
  | cons f rest => simp [continueGather, hg, hr]

/-- With a fetch left that is an own one, or whose reference is valid, its transfer is claimed (R108). -/
theorem continueGather_next {j : Job} {d : Device} {f : Fetch} {rest : List Fetch} (h : j.gather = f :: rest)
    (hr : reached d j.slot j.last = false) (hv : isReferenceFetch f = false ∨ referenceValid d j.slot = true) :
    continueGather j d = claimBus (setJob j d) := by
  simp only [continueGather, h, hr]
  rcases hv with hv | hv <;> simp [hv]

/-- A lost reference takes its fetches out of the list: the next own fetch is claimed, or with none left the gather ends (R108). -/
theorem continueGather_lost {j : Job} {d : Device} {f : Fetch} {rest : List Fetch} (h : j.gather = f :: rest)
    (hr : reached d j.slot j.last = false) (hf : isReferenceFetch f = true) (hv : referenceValid d j.slot = false) :
    ∃ k, k = atFetch d.control.geometry { j with gather := j.gather.filter fun f => !isReferenceFetch f } ∧
      continueGather j d = if k.gather.isEmpty then endGather k d else claimBus (setJob k d) :=
  ⟨_, rfl, by simp only [continueGather, h, hr, hf, hv]; simp⟩

/-- A transfer that the job claims with the memory side free and no burner claim waiting is on it at once, if the tests before the
grant leave the claim as it is (R13, R106). -/
theorem arbitrate_claimBus {j : Job} {d : Device} (h1 : d.arbiter.onBus = none) (h2 : portState d ≠ .waiting)
    (h3 : retestEngine (claimBus (setJob j d)) = claimBus (setJob j d)) :
    arbitrate (claimBus (setJob j d)) = { d with
      engine := { d.engine with job := some j, claiming := false }
      arbiter := { d.arbiter with onBus := some (engineTransfer j) } } := by
  have hc : (claimBus (setJob j d)).engine.claiming = true := rfl
  rw [arbitrate_engine (d := claimBus (setJob j d)) h1 hc h2, grantEngine, h3]
  simp [claimBus, setJob, setBus, issueEngine]

/-- A completion of the last bytes of a fetch goes on, and what it does to the part is `completeTransfer`. -/
theorem exec_runEnds {s : State} {m : MemTransfer} {l : List Beat} {j : Job} {p : Span} (h : RunEnds s m l j p) :
    exec (.memoryTransferComplete l) s = .next (s.onDevice (completeTransfer m l)) := by
  obtain ⟨h1, h2, h3, h4, h5⟩ := h.bus
  simp [exec, execMemoryTransferComplete, h1, beatsOutstanding, h2, fetchedBeats, h4, h5]

/-- With a job the engine examines nothing (R104). -/
@[simp] theorem wakeEngine_busy {d : Device} {j : Job} (h : d.engine.job = some j) : wakeEngine d = d := by
  simp [wakeEngine, h]

/-- With an empty order the engine stays as it is (R104). -/
@[simp] theorem wakeEngine_nil {d : Device} (h : d.engine.order = []) : wakeEngine d = d := by
  simp [wakeEngine, h, examineOrder]

/-- Outside a run the engine takes no span (R104). -/
theorem wakeEngine_stopped {d : Device} (h : d.control.run ≠ .running) : wakeEngine d = d := by
  simp [wakeEngine, h]

end Sys2Proof.Machine
end

