-- ==== Sys2Proof/Laws/State.lean ====
section
/-! SUPPORT. What each named update of the part leaves alone and what it writes, one lemma per field and update, each true by
unfolding the update. Later proofs rewrite with these and never unfold an update. -/

namespace Sys2Proof.Machine

/-! What raising an attention cause changes. -/

@[simp] theorem raise_control (c : Cause) (d : Device) : (raise c d).control = d.control := rfl
@[simp] theorem raise_port (c : Cause) (d : Device) : (raise c d).port = d.port := rfl
@[simp] theorem raise_arbiter (c : Cause) (d : Device) : (raise c d).arbiter = d.arbiter := rfl
@[simp] theorem raise_ring (c : Cause) (d : Device) : (raise c d).ring = d.ring := rfl
@[simp] theorem raise_checker (c : Cause) (d : Device) : (raise c d).checker = d.checker := rfl
@[simp] theorem raise_map (c : Cause) (d : Device) : (raise c d).map = d.map := rfl
@[simp] theorem raise_engine (c : Cause) (d : Device) : (raise c d).engine = d.engine := rfl
@[simp] theorem raise_delivery (c : Cause) (d : Device) : (raise c d).delivery = d.delivery := rfl
@[simp] theorem raise_reports (c : Cause) (d : Device) : (raise c d).reports = d.reports := rfl
@[simp] theorem raise_link_line (c : Cause) (d : Device) : (raise c d).link.line = d.link.line := rfl
@[simp] theorem raise_link_enables (c : Cause) (d : Device) : (raise c d).link.enables = d.link.enables := rfl
@[simp] theorem raise_link_requestBad (c : Cause) (d : Device) : (raise c d).link.requestBad = d.link.requestBad := rfl
@[simp] theorem raise_link_holder (c : Cause) (d : Device) : (raise c d).link.holder = d.link.holder := rfl
@[simp] theorem raise_link_causes (c : Cause) (d : Device) : (raise c d).link.causes = d.link.causes ||| BitVec.ofNat 10 (2 ^ causeBit c) := rfl

/-! What counting k in a run counter changes. -/

@[simp] theorem bumpBy_control (c : Counter) (k : Nat) (d : Device) : (bumpBy c k d).control = d.control := rfl
@[simp] theorem bumpBy_port (c : Counter) (k : Nat) (d : Device) : (bumpBy c k d).port = d.port := rfl
@[simp] theorem bumpBy_arbiter (c : Counter) (k : Nat) (d : Device) : (bumpBy c k d).arbiter = d.arbiter := rfl
@[simp] theorem bumpBy_ring (c : Counter) (k : Nat) (d : Device) : (bumpBy c k d).ring = d.ring := rfl
@[simp] theorem bumpBy_checker (c : Counter) (k : Nat) (d : Device) : (bumpBy c k d).checker = d.checker := rfl
@[simp] theorem bumpBy_map (c : Counter) (k : Nat) (d : Device) : (bumpBy c k d).map = d.map := rfl
@[simp] theorem bumpBy_engine (c : Counter) (k : Nat) (d : Device) : (bumpBy c k d).engine = d.engine := rfl
@[simp] theorem bumpBy_delivery (c : Counter) (k : Nat) (d : Device) : (bumpBy c k d).delivery = d.delivery := rfl
@[simp] theorem bumpBy_link (c : Counter) (k : Nat) (d : Device) : (bumpBy c k d).link = d.link := rfl
@[simp] theorem bumpBy_queue (c : Counter) (k : Nat) (d : Device) : (bumpBy c k d).reports.queue = d.reports.queue := rfl
@[simp] theorem bumpBy_gap (c : Counter) (k : Nat) (d : Device) : (bumpBy c k d).reports.gap = d.reports.gap := rfl
@[simp] theorem bumpBy_runQuality (c : Counter) (k : Nat) (d : Device) : (bumpBy c k d).reports.runQuality = d.reports.runQuality := rfl
@[simp] theorem bumpBy_worstQuality (c : Counter) (k : Nat) (d : Device) : (bumpBy c k d).reports.worstQuality = d.reports.worstQuality := rfl
@[simp] theorem bumpBy_lastQuality (c : Counter) (k : Nat) (d : Device) : (bumpBy c k d).reports.lastQuality = d.reports.lastQuality := rfl
@[simp] theorem bumpBy_recovery (c : Counter) (k : Nat) (d : Device) : (bumpBy c k d).reports.recovery = d.reports.recovery := rfl
@[simp] theorem bumpBy_counters (c : Counter) (k : Nat) (d : Device) : (bumpBy c k d).reports.counters = bumpCounter c k d.reports.counters := rfl

/-! What counting one in a run counter changes. -/

@[simp] theorem bump_control (c : Counter) (d : Device) : (bump c d).control = d.control := rfl
@[simp] theorem bump_port (c : Counter) (d : Device) : (bump c d).port = d.port := rfl
@[simp] theorem bump_arbiter (c : Counter) (d : Device) : (bump c d).arbiter = d.arbiter := rfl
@[simp] theorem bump_ring (c : Counter) (d : Device) : (bump c d).ring = d.ring := rfl
@[simp] theorem bump_checker (c : Counter) (d : Device) : (bump c d).checker = d.checker := rfl
@[simp] theorem bump_map (c : Counter) (d : Device) : (bump c d).map = d.map := rfl
@[simp] theorem bump_engine (c : Counter) (d : Device) : (bump c d).engine = d.engine := rfl
@[simp] theorem bump_delivery (c : Counter) (d : Device) : (bump c d).delivery = d.delivery := rfl
@[simp] theorem bump_link (c : Counter) (d : Device) : (bump c d).link = d.link := rfl
@[simp] theorem bump_queue (c : Counter) (d : Device) : (bump c d).reports.queue = d.reports.queue := rfl
@[simp] theorem bump_gap (c : Counter) (d : Device) : (bump c d).reports.gap = d.reports.gap := rfl
@[simp] theorem bump_runQuality (c : Counter) (d : Device) : (bump c d).reports.runQuality = d.reports.runQuality := rfl
@[simp] theorem bump_worstQuality (c : Counter) (d : Device) : (bump c d).reports.worstQuality = d.reports.worstQuality := rfl
@[simp] theorem bump_lastQuality (c : Counter) (d : Device) : (bump c d).reports.lastQuality = d.reports.lastQuality := rfl
@[simp] theorem bump_recovery (c : Counter) (d : Device) : (bump c d).reports.recovery = d.reports.recovery := rfl
@[simp] theorem bump_counters (c : Counter) (d : Device) : (bump c d).reports.counters = bumpCounter c 1 d.reports.counters := rfl

/-! What the fall of LOCK_HELD changes. -/

@[simp] theorem fallLockHeld_control (d : Device) : (fallLockHeld d).control = d.control := rfl
@[simp] theorem fallLockHeld_port (d : Device) : (fallLockHeld d).port = d.port := rfl
@[simp] theorem fallLockHeld_arbiter (d : Device) : (fallLockHeld d).arbiter = d.arbiter := rfl
@[simp] theorem fallLockHeld_checker (d : Device) : (fallLockHeld d).checker = d.checker := rfl
@[simp] theorem fallLockHeld_map (d : Device) : (fallLockHeld d).map = d.map := rfl
@[simp] theorem fallLockHeld_engine (d : Device) : (fallLockHeld d).engine = d.engine := rfl
@[simp] theorem fallLockHeld_delivery (d : Device) : (fallLockHeld d).delivery = d.delivery := rfl
@[simp] theorem fallLockHeld_reports (d : Device) : (fallLockHeld d).reports = d.reports := rfl
@[simp] theorem fallLockHeld_lockHeld (d : Device) : (fallLockHeld d).ring.lockHeld = false := rfl
@[simp] theorem fallLockHeld_slots (d : Device) : (fallLockHeld d).ring.slots = d.ring.slots := rfl
@[simp] theorem fallLockHeld_lock (d : Device) : (fallLockHeld d).ring.lock = d.ring.lock := rfl
@[simp] theorem fallLockHeld_fillSlot (d : Device) : (fallLockHeld d).ring.fillSlot = d.ring.fillSlot := rfl
@[simp] theorem fallLockHeld_fillOpen (d : Device) : (fallLockHeld d).ring.fillOpen = d.ring.fillOpen := rfl
@[simp] theorem fallLockHeld_draining (d : Device) : (fallLockHeld d).ring.draining = d.ring.draining := rfl
@[simp] theorem fallLockHeld_causes (d : Device) : (fallLockHeld d).link.causes = d.link.causes := rfl
@[simp] theorem fallLockHeld_enables (d : Device) : (fallLockHeld d).link.enables = d.link.enables := rfl
@[simp] theorem fallLockHeld_holder (d : Device) : (fallLockHeld d).link.holder = d.link.holder := rfl
@[simp] theorem fallLockHeld_requestBad (d : Device) : (fallLockHeld d).link.requestBad = d.link.requestBad := rfl

/-! What changing a slot table entry changes. -/

@[simp] theorem modifySlot_control (s : Nat) (f : SlotEntry → SlotEntry) (d : Device) : (modifySlot s f d).control = d.control := rfl
@[simp] theorem modifySlot_port (s : Nat) (f : SlotEntry → SlotEntry) (d : Device) : (modifySlot s f d).port = d.port := rfl
@[simp] theorem modifySlot_arbiter (s : Nat) (f : SlotEntry → SlotEntry) (d : Device) : (modifySlot s f d).arbiter = d.arbiter := rfl
@[simp] theorem modifySlot_checker (s : Nat) (f : SlotEntry → SlotEntry) (d : Device) : (modifySlot s f d).checker = d.checker := rfl
@[simp] theorem modifySlot_map (s : Nat) (f : SlotEntry → SlotEntry) (d : Device) : (modifySlot s f d).map = d.map := rfl
@[simp] theorem modifySlot_engine (s : Nat) (f : SlotEntry → SlotEntry) (d : Device) : (modifySlot s f d).engine = d.engine := rfl
@[simp] theorem modifySlot_delivery (s : Nat) (f : SlotEntry → SlotEntry) (d : Device) : (modifySlot s f d).delivery = d.delivery := rfl
@[simp] theorem modifySlot_reports (s : Nat) (f : SlotEntry → SlotEntry) (d : Device) : (modifySlot s f d).reports = d.reports := rfl
@[simp] theorem modifySlot_link (s : Nat) (f : SlotEntry → SlotEntry) (d : Device) : (modifySlot s f d).link = d.link := rfl
@[simp] theorem modifySlot_slots (s : Nat) (f : SlotEntry → SlotEntry) (d : Device) : (modifySlot s f d).ring.slots = modifyAt f s d.ring.slots := rfl
@[simp] theorem modifySlot_lock (s : Nat) (f : SlotEntry → SlotEntry) (d : Device) : (modifySlot s f d).ring.lock = d.ring.lock := rfl
@[simp] theorem modifySlot_lockHeld (s : Nat) (f : SlotEntry → SlotEntry) (d : Device) : (modifySlot s f d).ring.lockHeld = d.ring.lockHeld := rfl
@[simp] theorem modifySlot_fillSlot (s : Nat) (f : SlotEntry → SlotEntry) (d : Device) : (modifySlot s f d).ring.fillSlot = d.ring.fillSlot := rfl
@[simp] theorem modifySlot_fillOpen (s : Nat) (f : SlotEntry → SlotEntry) (d : Device) : (modifySlot s f d).ring.fillOpen = d.ring.fillOpen := rfl
@[simp] theorem modifySlot_draining (s : Nat) (f : SlotEntry → SlotEntry) (d : Device) : (modifySlot s f d).ring.draining = d.ring.draining := rfl
@[simp] theorem modifySlot_nextFrame (s : Nat) (f : SlotEntry → SlotEntry) (d : Device) : (modifySlot s f d).ring.nextFrame = d.ring.nextFrame := rfl
@[simp] theorem modifySlot_drainFrame (s : Nat) (f : SlotEntry → SlotEntry) (d : Device) : (modifySlot s f d).ring.drainFrame = d.ring.drainFrame := rfl

/-! What putting a slot's span list changes. -/

@[simp] theorem setSpans_control (s : Nat) (l : List Span) (d : Device) : (setSpans s l d).control = d.control := rfl
@[simp] theorem setSpans_port (s : Nat) (l : List Span) (d : Device) : (setSpans s l d).port = d.port := rfl
@[simp] theorem setSpans_arbiter (s : Nat) (l : List Span) (d : Device) : (setSpans s l d).arbiter = d.arbiter := rfl
@[simp] theorem setSpans_ring (s : Nat) (l : List Span) (d : Device) : (setSpans s l d).ring = d.ring := rfl
@[simp] theorem setSpans_checker (s : Nat) (l : List Span) (d : Device) : (setSpans s l d).checker = d.checker := rfl
@[simp] theorem setSpans_engine (s : Nat) (l : List Span) (d : Device) : (setSpans s l d).engine = d.engine := rfl
@[simp] theorem setSpans_delivery (s : Nat) (l : List Span) (d : Device) : (setSpans s l d).delivery = d.delivery := rfl
@[simp] theorem setSpans_reports (s : Nat) (l : List Span) (d : Device) : (setSpans s l d).reports = d.reports := rfl
@[simp] theorem setSpans_link (s : Nat) (l : List Span) (d : Device) : (setSpans s l d).link = d.link := rfl
@[simp] theorem setSpans_spans (s : Nat) (l : List Span) (d : Device) : (setSpans s l d).map.spans = modifyAt (fun _ => l) s d.map.spans := rfl

/-! What changing one span changes. -/

@[simp] theorem modifySpan_control (s i : Nat) (f : Span → Span) (d : Device) : (modifySpan s i f d).control = d.control := rfl
@[simp] theorem modifySpan_port (s i : Nat) (f : Span → Span) (d : Device) : (modifySpan s i f d).port = d.port := rfl
@[simp] theorem modifySpan_arbiter (s i : Nat) (f : Span → Span) (d : Device) : (modifySpan s i f d).arbiter = d.arbiter := rfl
@[simp] theorem modifySpan_ring (s i : Nat) (f : Span → Span) (d : Device) : (modifySpan s i f d).ring = d.ring := rfl
@[simp] theorem modifySpan_checker (s i : Nat) (f : Span → Span) (d : Device) : (modifySpan s i f d).checker = d.checker := rfl
@[simp] theorem modifySpan_engine (s i : Nat) (f : Span → Span) (d : Device) : (modifySpan s i f d).engine = d.engine := rfl
@[simp] theorem modifySpan_delivery (s i : Nat) (f : Span → Span) (d : Device) : (modifySpan s i f d).delivery = d.delivery := rfl
@[simp] theorem modifySpan_reports (s i : Nat) (f : Span → Span) (d : Device) : (modifySpan s i f d).reports = d.reports := rfl
@[simp] theorem modifySpan_link (s i : Nat) (f : Span → Span) (d : Device) : (modifySpan s i f d).link = d.link := rfl

/-! What putting a line status changes. -/

@[simp] theorem setStatus_control (i : Nat) (x : LineStatus) (d : Device) : (setStatus i x d).control = d.control := rfl
@[simp] theorem setStatus_port (i : Nat) (x : LineStatus) (d : Device) : (setStatus i x d).port = d.port := rfl
@[simp] theorem setStatus_arbiter (i : Nat) (x : LineStatus) (d : Device) : (setStatus i x d).arbiter = d.arbiter := rfl
@[simp] theorem setStatus_ring (i : Nat) (x : LineStatus) (d : Device) : (setStatus i x d).ring = d.ring := rfl
@[simp] theorem setStatus_map (i : Nat) (x : LineStatus) (d : Device) : (setStatus i x d).map = d.map := rfl
@[simp] theorem setStatus_engine (i : Nat) (x : LineStatus) (d : Device) : (setStatus i x d).engine = d.engine := rfl
@[simp] theorem setStatus_delivery (i : Nat) (x : LineStatus) (d : Device) : (setStatus i x d).delivery = d.delivery := rfl
@[simp] theorem setStatus_reports (i : Nat) (x : LineStatus) (d : Device) : (setStatus i x d).reports = d.reports := rfl
@[simp] theorem setStatus_link (i : Nat) (x : LineStatus) (d : Device) : (setStatus i x d).link = d.link := rfl

/-! What putting the open line changes. -/

@[simp] theorem setContext_control (c : Option OpenLine) (d : Device) : (setContext c d).control = d.control := rfl
@[simp] theorem setContext_port (c : Option OpenLine) (d : Device) : (setContext c d).port = d.port := rfl
@[simp] theorem setContext_arbiter (c : Option OpenLine) (d : Device) : (setContext c d).arbiter = d.arbiter := rfl
@[simp] theorem setContext_ring (c : Option OpenLine) (d : Device) : (setContext c d).ring = d.ring := rfl
@[simp] theorem setContext_map (c : Option OpenLine) (d : Device) : (setContext c d).map = d.map := rfl
@[simp] theorem setContext_engine (c : Option OpenLine) (d : Device) : (setContext c d).engine = d.engine := rfl
@[simp] theorem setContext_delivery (c : Option OpenLine) (d : Device) : (setContext c d).delivery = d.delivery := rfl
@[simp] theorem setContext_reports (c : Option OpenLine) (d : Device) : (setContext c d).reports = d.reports := rfl
@[simp] theorem setContext_link (c : Option OpenLine) (d : Device) : (setContext c d).link = d.link := rfl

/-! What putting a job changes. -/

@[simp] theorem setJob_control (j : Job) (d : Device) : (setJob j d).control = d.control := rfl
@[simp] theorem setJob_port (j : Job) (d : Device) : (setJob j d).port = d.port := rfl
@[simp] theorem setJob_arbiter (j : Job) (d : Device) : (setJob j d).arbiter = d.arbiter := rfl
@[simp] theorem setJob_ring (j : Job) (d : Device) : (setJob j d).ring = d.ring := rfl
@[simp] theorem setJob_checker (j : Job) (d : Device) : (setJob j d).checker = d.checker := rfl
@[simp] theorem setJob_map (j : Job) (d : Device) : (setJob j d).map = d.map := rfl
@[simp] theorem setJob_delivery (j : Job) (d : Device) : (setJob j d).delivery = d.delivery := rfl
@[simp] theorem setJob_reports (j : Job) (d : Device) : (setJob j d).reports = d.reports := rfl
@[simp] theorem setJob_link (j : Job) (d : Device) : (setJob j d).link = d.link := rfl
@[simp] theorem setJob_job (j : Job) (d : Device) : (setJob j d).engine.job = some j := rfl
@[simp] theorem setJob_order (j : Job) (d : Device) : (setJob j d).engine.order = d.engine.order := rfl
@[simp] theorem setJob_claiming (j : Job) (d : Device) : (setJob j d).engine.claiming = d.engine.claiming := rfl

/-! What placing the engine's claim changes. -/

@[simp] theorem claimBus_control (d : Device) : (claimBus d).control = d.control := rfl
@[simp] theorem claimBus_port (d : Device) : (claimBus d).port = d.port := rfl
@[simp] theorem claimBus_arbiter (d : Device) : (claimBus d).arbiter = d.arbiter := rfl
@[simp] theorem claimBus_ring (d : Device) : (claimBus d).ring = d.ring := rfl
@[simp] theorem claimBus_checker (d : Device) : (claimBus d).checker = d.checker := rfl
@[simp] theorem claimBus_map (d : Device) : (claimBus d).map = d.map := rfl
@[simp] theorem claimBus_delivery (d : Device) : (claimBus d).delivery = d.delivery := rfl
@[simp] theorem claimBus_reports (d : Device) : (claimBus d).reports = d.reports := rfl
@[simp] theorem claimBus_link (d : Device) : (claimBus d).link = d.link := rfl
@[simp] theorem claimBus_job (d : Device) : (claimBus d).engine.job = d.engine.job := rfl
@[simp] theorem claimBus_order (d : Device) : (claimBus d).engine.order = d.engine.order := rfl
@[simp] theorem claimBus_claiming (d : Device) : (claimBus d).engine.claiming = true := rfl

/-! What moving r changes. -/

@[simp] theorem moveProgress_control (j : Job) (d : Device) : (moveProgress j d).control = d.control := rfl
@[simp] theorem moveProgress_port (j : Job) (d : Device) : (moveProgress j d).port = d.port := rfl
@[simp] theorem moveProgress_arbiter (j : Job) (d : Device) : (moveProgress j d).arbiter = d.arbiter := rfl
@[simp] theorem moveProgress_ring (j : Job) (d : Device) : (moveProgress j d).ring = d.ring := rfl
@[simp] theorem moveProgress_checker (j : Job) (d : Device) : (moveProgress j d).checker = d.checker := rfl
@[simp] theorem moveProgress_engine (j : Job) (d : Device) : (moveProgress j d).engine = d.engine := rfl
@[simp] theorem moveProgress_delivery (j : Job) (d : Device) : (moveProgress j d).delivery = d.delivery := rfl
@[simp] theorem moveProgress_reports (j : Job) (d : Device) : (moveProgress j d).reports = d.reports := rfl
@[simp] theorem moveProgress_link (j : Job) (d : Device) : (moveProgress j d).link = d.link := rfl

/-! What leaving the repair order changes. -/

@[simp] theorem leaveOrder_control (s : Nat) (d : Device) : (leaveOrder s d).control = d.control := rfl
@[simp] theorem leaveOrder_port (s : Nat) (d : Device) : (leaveOrder s d).port = d.port := rfl
@[simp] theorem leaveOrder_arbiter (s : Nat) (d : Device) : (leaveOrder s d).arbiter = d.arbiter := rfl
@[simp] theorem leaveOrder_ring (s : Nat) (d : Device) : (leaveOrder s d).ring = d.ring := rfl
@[simp] theorem leaveOrder_checker (s : Nat) (d : Device) : (leaveOrder s d).checker = d.checker := rfl
@[simp] theorem leaveOrder_map (s : Nat) (d : Device) : (leaveOrder s d).map = d.map := rfl
@[simp] theorem leaveOrder_delivery (s : Nat) (d : Device) : (leaveOrder s d).delivery = d.delivery := rfl
@[simp] theorem leaveOrder_reports (s : Nat) (d : Device) : (leaveOrder s d).reports = d.reports := rfl
@[simp] theorem leaveOrder_link (s : Nat) (d : Device) : (leaveOrder s d).link = d.link := rfl
@[simp] theorem leaveOrder_job (s : Nat) (d : Device) : (leaveOrder s d).engine.job = d.engine.job := rfl
@[simp] theorem leaveOrder_claiming (s : Nat) (d : Device) : (leaveOrder s d).engine.claiming = d.engine.claiming := rfl

/-! What putting the burner transfer changes. -/

@[simp] theorem setTransfer_control (t : Option BurnerTransfer) (d : Device) : (setTransfer t d).control = d.control := rfl
@[simp] theorem setTransfer_arbiter (t : Option BurnerTransfer) (d : Device) : (setTransfer t d).arbiter = d.arbiter := rfl
@[simp] theorem setTransfer_ring (t : Option BurnerTransfer) (d : Device) : (setTransfer t d).ring = d.ring := rfl
@[simp] theorem setTransfer_checker (t : Option BurnerTransfer) (d : Device) : (setTransfer t d).checker = d.checker := rfl
@[simp] theorem setTransfer_map (t : Option BurnerTransfer) (d : Device) : (setTransfer t d).map = d.map := rfl
@[simp] theorem setTransfer_engine (t : Option BurnerTransfer) (d : Device) : (setTransfer t d).engine = d.engine := rfl
@[simp] theorem setTransfer_delivery (t : Option BurnerTransfer) (d : Device) : (setTransfer t d).delivery = d.delivery := rfl
@[simp] theorem setTransfer_reports (t : Option BurnerTransfer) (d : Device) : (setTransfer t d).reports = d.reports := rfl
@[simp] theorem setTransfer_link (t : Option BurnerTransfer) (d : Device) : (setTransfer t d).link = d.link := rfl
@[simp] theorem setTransfer_transfer (t : Option BurnerTransfer) (d : Device) : (setTransfer t d).port.transfer = t := rfl
@[simp] theorem setTransfer_brd (t : Option BurnerTransfer) (d : Device) : (setTransfer t d).port.brd = d.port.brd := rfl

/-! What putting the memory-side transfer changes. -/

@[simp] theorem setBus_control (m : Option MemTransfer) (d : Device) : (setBus m d).control = d.control := rfl
@[simp] theorem setBus_port (m : Option MemTransfer) (d : Device) : (setBus m d).port = d.port := rfl
@[simp] theorem setBus_ring (m : Option MemTransfer) (d : Device) : (setBus m d).ring = d.ring := rfl
@[simp] theorem setBus_checker (m : Option MemTransfer) (d : Device) : (setBus m d).checker = d.checker := rfl
@[simp] theorem setBus_map (m : Option MemTransfer) (d : Device) : (setBus m d).map = d.map := rfl
@[simp] theorem setBus_engine (m : Option MemTransfer) (d : Device) : (setBus m d).engine = d.engine := rfl
@[simp] theorem setBus_delivery (m : Option MemTransfer) (d : Device) : (setBus m d).delivery = d.delivery := rfl
@[simp] theorem setBus_reports (m : Option MemTransfer) (d : Device) : (setBus m d).reports = d.reports := rfl
@[simp] theorem setBus_link (m : Option MemTransfer) (d : Device) : (setBus m d).link = d.link := rfl
@[simp] theorem setBus_onBus (m : Option MemTransfer) (d : Device) : (setBus m d).arbiter.onBus = m := rfl
@[simp] theorem setBus_passOver (m : Option MemTransfer) (d : Device) : (setBus m d).arbiter.passOver = d.arbiter.passOver := rfl

/-! What setting the pass-over mark changes. -/

@[simp] theorem markPassOver_control (d : Device) : (markPassOver d).control = d.control := rfl
@[simp] theorem markPassOver_port (d : Device) : (markPassOver d).port = d.port := rfl
@[simp] theorem markPassOver_ring (d : Device) : (markPassOver d).ring = d.ring := rfl
@[simp] theorem markPassOver_checker (d : Device) : (markPassOver d).checker = d.checker := rfl
@[simp] theorem markPassOver_map (d : Device) : (markPassOver d).map = d.map := rfl
@[simp] theorem markPassOver_engine (d : Device) : (markPassOver d).engine = d.engine := rfl
@[simp] theorem markPassOver_delivery (d : Device) : (markPassOver d).delivery = d.delivery := rfl
@[simp] theorem markPassOver_reports (d : Device) : (markPassOver d).reports = d.reports := rfl
@[simp] theorem markPassOver_link (d : Device) : (markPassOver d).link = d.link := rfl
@[simp] theorem markPassOver_onBus (d : Device) : (markPassOver d).arbiter.onBus = d.arbiter.onBus := rfl
@[simp] theorem markPassOver_passOver (d : Device) : (markPassOver d).arbiter.passOver = true := rfl

/-! What giving the burner a beat changes. -/

@[simp] theorem giveBeat_control (t : BurnerTransfer) (b : Beat) (d : Device) : (giveBeat t b d).control = d.control := rfl
@[simp] theorem giveBeat_arbiter (t : BurnerTransfer) (b : Beat) (d : Device) : (giveBeat t b d).arbiter = d.arbiter := rfl
@[simp] theorem giveBeat_ring (t : BurnerTransfer) (b : Beat) (d : Device) : (giveBeat t b d).ring = d.ring := rfl
@[simp] theorem giveBeat_checker (t : BurnerTransfer) (b : Beat) (d : Device) : (giveBeat t b d).checker = d.checker := rfl
@[simp] theorem giveBeat_map (t : BurnerTransfer) (b : Beat) (d : Device) : (giveBeat t b d).map = d.map := rfl
@[simp] theorem giveBeat_engine (t : BurnerTransfer) (b : Beat) (d : Device) : (giveBeat t b d).engine = d.engine := rfl
@[simp] theorem giveBeat_delivery (t : BurnerTransfer) (b : Beat) (d : Device) : (giveBeat t b d).delivery = d.delivery := rfl
@[simp] theorem giveBeat_reports (t : BurnerTransfer) (b : Beat) (d : Device) : (giveBeat t b d).reports = d.reports := rfl
@[simp] theorem giveBeat_link (t : BurnerTransfer) (b : Beat) (d : Device) : (giveBeat t b d).link = d.link := rfl

/-! What releasing the port changes. -/

@[simp] theorem releasePort_control (d : Device) : (releasePort d).control = d.control := rfl
@[simp] theorem releasePort_arbiter (d : Device) : (releasePort d).arbiter = d.arbiter := rfl
@[simp] theorem releasePort_ring (d : Device) : (releasePort d).ring = d.ring := rfl
@[simp] theorem releasePort_checker (d : Device) : (releasePort d).checker = d.checker := rfl
@[simp] theorem releasePort_map (d : Device) : (releasePort d).map = d.map := rfl
@[simp] theorem releasePort_engine (d : Device) : (releasePort d).engine = d.engine := rfl
@[simp] theorem releasePort_delivery (d : Device) : (releasePort d).delivery = d.delivery := rfl
@[simp] theorem releasePort_reports (d : Device) : (releasePort d).reports = d.reports := rfl
@[simp] theorem releasePort_link (d : Device) : (releasePort d).link = d.link := rfl
@[simp] theorem releasePort_transfer (d : Device) : (releasePort d).port.transfer = d.port.transfer.map releaseTransfer := rfl
@[simp] theorem releasePort_brd (d : Device) : (releasePort d).port.brd = d.port.brd := rfl

/-! What changing the drain record changes. -/

@[simp] theorem onRecord_control (f : DrainRecord → DrainRecord) (d : Device) : (onRecord f d).control = d.control := rfl
@[simp] theorem onRecord_port (f : DrainRecord → DrainRecord) (d : Device) : (onRecord f d).port = d.port := rfl
@[simp] theorem onRecord_arbiter (f : DrainRecord → DrainRecord) (d : Device) : (onRecord f d).arbiter = d.arbiter := rfl
@[simp] theorem onRecord_ring (f : DrainRecord → DrainRecord) (d : Device) : (onRecord f d).ring = d.ring := rfl
@[simp] theorem onRecord_checker (f : DrainRecord → DrainRecord) (d : Device) : (onRecord f d).checker = d.checker := rfl
@[simp] theorem onRecord_map (f : DrainRecord → DrainRecord) (d : Device) : (onRecord f d).map = d.map := rfl
@[simp] theorem onRecord_engine (f : DrainRecord → DrainRecord) (d : Device) : (onRecord f d).engine = d.engine := rfl
@[simp] theorem onRecord_reports (f : DrainRecord → DrainRecord) (d : Device) : (onRecord f d).reports = d.reports := rfl
@[simp] theorem onRecord_link (f : DrainRecord → DrainRecord) (d : Device) : (onRecord f d).link = d.link := rfl
@[simp] theorem onRecord_record (f : DrainRecord → DrainRecord) (d : Device) : (onRecord f d).delivery.record = d.delivery.record.map f := rfl
@[simp] theorem onRecord_closing (f : DrainRecord → DrainRecord) (d : Device) : (onRecord f d).delivery.closing = d.delivery.closing := rfl
@[simp] theorem onRecord_held (f : DrainRecord → DrainRecord) (d : Device) : (onRecord f d).delivery.held = d.delivery.held := rfl
@[simp] theorem onRecord_context (f : DrainRecord → DrainRecord) (d : Device) : (onRecord f d).delivery.context = d.delivery.context := rfl

/-! What emptying the held-read context changes. -/

@[simp] theorem dropHold_control (d : Device) : (dropHold d).control = d.control := rfl
@[simp] theorem dropHold_port (d : Device) : (dropHold d).port = d.port := rfl
@[simp] theorem dropHold_arbiter (d : Device) : (dropHold d).arbiter = d.arbiter := rfl
@[simp] theorem dropHold_ring (d : Device) : (dropHold d).ring = d.ring := rfl
@[simp] theorem dropHold_checker (d : Device) : (dropHold d).checker = d.checker := rfl
@[simp] theorem dropHold_map (d : Device) : (dropHold d).map = d.map := rfl
@[simp] theorem dropHold_engine (d : Device) : (dropHold d).engine = d.engine := rfl
@[simp] theorem dropHold_reports (d : Device) : (dropHold d).reports = d.reports := rfl
@[simp] theorem dropHold_link (d : Device) : (dropHold d).link = d.link := rfl
@[simp] theorem dropHold_record (d : Device) : (dropHold d).delivery.record = d.delivery.record := rfl
@[simp] theorem dropHold_closing (d : Device) : (dropHold d).delivery.closing = d.delivery.closing := rfl
@[simp] theorem dropHold_held (d : Device) : (dropHold d).delivery.held = none := rfl
@[simp] theorem dropHold_context (d : Device) : (dropHold d).delivery.context = d.delivery.context := rfl

/-! What opening a drain record changes. -/

@[simp] theorem openRecord_control (s : Nat) (d : Device) : (openRecord s d).control = d.control := rfl
@[simp] theorem openRecord_port (s : Nat) (d : Device) : (openRecord s d).port = d.port := rfl
@[simp] theorem openRecord_arbiter (s : Nat) (d : Device) : (openRecord s d).arbiter = d.arbiter := rfl
@[simp] theorem openRecord_ring (s : Nat) (d : Device) : (openRecord s d).ring = d.ring := rfl
@[simp] theorem openRecord_checker (s : Nat) (d : Device) : (openRecord s d).checker = d.checker := rfl
@[simp] theorem openRecord_map (s : Nat) (d : Device) : (openRecord s d).map = d.map := rfl
@[simp] theorem openRecord_engine (s : Nat) (d : Device) : (openRecord s d).engine = d.engine := rfl
@[simp] theorem openRecord_reports (s : Nat) (d : Device) : (openRecord s d).reports = d.reports := rfl
@[simp] theorem openRecord_link (s : Nat) (d : Device) : (openRecord s d).link = d.link := rfl

/-! What having no DRAINING slot changes. -/

@[simp] theorem noDraining_control (d : Device) : (noDraining d).control = d.control := rfl
@[simp] theorem noDraining_port (d : Device) : (noDraining d).port = d.port := rfl
@[simp] theorem noDraining_arbiter (d : Device) : (noDraining d).arbiter = d.arbiter := rfl
@[simp] theorem noDraining_checker (d : Device) : (noDraining d).checker = d.checker := rfl
@[simp] theorem noDraining_map (d : Device) : (noDraining d).map = d.map := rfl
@[simp] theorem noDraining_engine (d : Device) : (noDraining d).engine = d.engine := rfl
@[simp] theorem noDraining_delivery (d : Device) : (noDraining d).delivery = d.delivery := rfl
@[simp] theorem noDraining_reports (d : Device) : (noDraining d).reports = d.reports := rfl
@[simp] theorem noDraining_link (d : Device) : (noDraining d).link = d.link := rfl
@[simp] theorem noDraining_slots (d : Device) : (noDraining d).ring.slots = d.ring.slots := rfl
@[simp] theorem noDraining_draining (d : Device) : (noDraining d).ring.draining = none := rfl
@[simp] theorem noDraining_fillSlot (d : Device) : (noDraining d).ring.fillSlot = d.ring.fillSlot := rfl
@[simp] theorem noDraining_fillOpen (d : Device) : (noDraining d).ring.fillOpen = d.ring.fillOpen := rfl
@[simp] theorem noDraining_lock (d : Device) : (noDraining d).ring.lock = d.ring.lock := rfl
@[simp] theorem noDraining_drainFrame (d : Device) : (noDraining d).ring.drainFrame = d.ring.drainFrame := rfl

/-! What putting the lock sub-state changes. -/

@[simp] theorem setLock_control (l : Lock) (d : Device) : (setLock l d).control = d.control := rfl
@[simp] theorem setLock_port (l : Lock) (d : Device) : (setLock l d).port = d.port := rfl
@[simp] theorem setLock_arbiter (l : Lock) (d : Device) : (setLock l d).arbiter = d.arbiter := rfl
@[simp] theorem setLock_checker (l : Lock) (d : Device) : (setLock l d).checker = d.checker := rfl
@[simp] theorem setLock_map (l : Lock) (d : Device) : (setLock l d).map = d.map := rfl
@[simp] theorem setLock_engine (l : Lock) (d : Device) : (setLock l d).engine = d.engine := rfl
@[simp] theorem setLock_delivery (l : Lock) (d : Device) : (setLock l d).delivery = d.delivery := rfl
@[simp] theorem setLock_reports (l : Lock) (d : Device) : (setLock l d).reports = d.reports := rfl
@[simp] theorem setLock_link (l : Lock) (d : Device) : (setLock l d).link = d.link := rfl
@[simp] theorem setLock_slots (l : Lock) (d : Device) : (setLock l d).ring.slots = d.ring.slots := rfl
@[simp] theorem setLock_lock (l : Lock) (d : Device) : (setLock l d).ring.lock = some l := rfl
@[simp] theorem setLock_draining (l : Lock) (d : Device) : (setLock l d).ring.draining = d.ring.draining := rfl
@[simp] theorem setLock_fillSlot (l : Lock) (d : Device) : (setLock l d).ring.fillSlot = d.ring.fillSlot := rfl
@[simp] theorem setLock_fillOpen (l : Lock) (d : Device) : (setLock l d).ring.fillOpen = d.ring.fillOpen := rfl

/-! What filling a slot changes. -/

@[simp] theorem fillWith_control (s : Nat) (o : Bool) (d : Device) : (fillWith s o d).control = d.control := rfl
@[simp] theorem fillWith_port (s : Nat) (o : Bool) (d : Device) : (fillWith s o d).port = d.port := rfl
@[simp] theorem fillWith_arbiter (s : Nat) (o : Bool) (d : Device) : (fillWith s o d).arbiter = d.arbiter := rfl
@[simp] theorem fillWith_checker (s : Nat) (o : Bool) (d : Device) : (fillWith s o d).checker = d.checker := rfl
@[simp] theorem fillWith_map (s : Nat) (o : Bool) (d : Device) : (fillWith s o d).map = d.map := rfl
@[simp] theorem fillWith_engine (s : Nat) (o : Bool) (d : Device) : (fillWith s o d).engine = d.engine := rfl
@[simp] theorem fillWith_delivery (s : Nat) (o : Bool) (d : Device) : (fillWith s o d).delivery = d.delivery := rfl
@[simp] theorem fillWith_reports (s : Nat) (o : Bool) (d : Device) : (fillWith s o d).reports = d.reports := rfl
@[simp] theorem fillWith_link (s : Nat) (o : Bool) (d : Device) : (fillWith s o d).link = d.link := rfl
@[simp] theorem fillWith_fillSlot (s : Nat) (o : Bool) (d : Device) : (fillWith s o d).ring.fillSlot = some s := rfl
@[simp] theorem fillWith_fillOpen (s : Nat) (o : Bool) (d : Device) : (fillWith s o d).ring.fillOpen = true := rfl
@[simp] theorem fillWith_nextFrame (s : Nat) (o : Bool) (d : Device) : (fillWith s o d).ring.nextFrame = d.ring.nextFrame + 1 := rfl
@[simp] theorem fillWith_draining (s : Nat) (o : Bool) (d : Device) : (fillWith s o d).ring.draining = d.ring.draining := rfl
@[simp] theorem fillWith_lock (s : Nat) (o : Bool) (d : Device) : (fillWith s o d).ring.lock = d.ring.lock := rfl

/-! What making a slot DRAINING changes. -/

@[simp] theorem makeDraining_control (s : Nat) (d : Device) : (makeDraining s d).control = d.control := rfl
@[simp] theorem makeDraining_port (s : Nat) (d : Device) : (makeDraining s d).port = d.port := rfl
@[simp] theorem makeDraining_arbiter (s : Nat) (d : Device) : (makeDraining s d).arbiter = d.arbiter := rfl
@[simp] theorem makeDraining_checker (s : Nat) (d : Device) : (makeDraining s d).checker = d.checker := rfl
@[simp] theorem makeDraining_map (s : Nat) (d : Device) : (makeDraining s d).map = d.map := rfl
@[simp] theorem makeDraining_engine (s : Nat) (d : Device) : (makeDraining s d).engine = d.engine := rfl
@[simp] theorem makeDraining_delivery (s : Nat) (d : Device) : (makeDraining s d).delivery = d.delivery := rfl
@[simp] theorem makeDraining_reports (s : Nat) (d : Device) : (makeDraining s d).reports = d.reports := rfl
@[simp] theorem makeDraining_link (s : Nat) (d : Device) : (makeDraining s d).link = d.link := rfl
@[simp] theorem makeDraining_draining (s : Nat) (d : Device) : (makeDraining s d).ring.draining = some s := rfl
@[simp] theorem makeDraining_fillSlot (s : Nat) (d : Device) : (makeDraining s d).ring.fillSlot = d.ring.fillSlot := rfl
@[simp] theorem makeDraining_fillOpen (s : Nat) (d : Device) : (makeDraining s d).ring.fillOpen = d.ring.fillOpen := rfl
@[simp] theorem makeDraining_lock (s : Nat) (d : Device) : (makeDraining s d).ring.lock = d.ring.lock := rfl

/-! What starting the fill line table changes. -/

@[simp] theorem startTable_control (d : Device) : (startTable d).control = d.control := rfl
@[simp] theorem startTable_port (d : Device) : (startTable d).port = d.port := rfl
@[simp] theorem startTable_arbiter (d : Device) : (startTable d).arbiter = d.arbiter := rfl
@[simp] theorem startTable_ring (d : Device) : (startTable d).ring = d.ring := rfl
@[simp] theorem startTable_map (d : Device) : (startTable d).map = d.map := rfl
@[simp] theorem startTable_engine (d : Device) : (startTable d).engine = d.engine := rfl
@[simp] theorem startTable_delivery (d : Device) : (startTable d).delivery = d.delivery := rfl
@[simp] theorem startTable_reports (d : Device) : (startTable d).reports = d.reports := rfl
@[simp] theorem startTable_link (d : Device) : (startTable d).link = d.link := rfl

/-! What abandoning spans changes. -/

@[simp] theorem abandonSpans_control (s : Nat) (d : Device) : (abandonSpans s d).control = d.control := rfl
@[simp] theorem abandonSpans_port (s : Nat) (d : Device) : (abandonSpans s d).port = d.port := rfl
@[simp] theorem abandonSpans_arbiter (s : Nat) (d : Device) : (abandonSpans s d).arbiter = d.arbiter := rfl
@[simp] theorem abandonSpans_ring (s : Nat) (d : Device) : (abandonSpans s d).ring = d.ring := rfl
@[simp] theorem abandonSpans_checker (s : Nat) (d : Device) : (abandonSpans s d).checker = d.checker := rfl
@[simp] theorem abandonSpans_engine (s : Nat) (d : Device) : (abandonSpans s d).engine = d.engine := rfl
@[simp] theorem abandonSpans_delivery (s : Nat) (d : Device) : (abandonSpans s d).delivery = d.delivery := rfl
@[simp] theorem abandonSpans_reports (s : Nat) (d : Device) : (abandonSpans s d).reports = d.reports := rfl
@[simp] theorem abandonSpans_link (s : Nat) (d : Device) : (abandonSpans s d).link = d.link := rfl

/-! What putting the link line changes. -/

@[simp] theorem setLine_control (l : LinkLine) (d : Device) : (setLine l d).control = d.control := rfl
@[simp] theorem setLine_port (l : LinkLine) (d : Device) : (setLine l d).port = d.port := rfl
@[simp] theorem setLine_arbiter (l : LinkLine) (d : Device) : (setLine l d).arbiter = d.arbiter := rfl
@[simp] theorem setLine_ring (l : LinkLine) (d : Device) : (setLine l d).ring = d.ring := rfl
@[simp] theorem setLine_checker (l : LinkLine) (d : Device) : (setLine l d).checker = d.checker := rfl
@[simp] theorem setLine_map (l : LinkLine) (d : Device) : (setLine l d).map = d.map := rfl
@[simp] theorem setLine_engine (l : LinkLine) (d : Device) : (setLine l d).engine = d.engine := rfl
@[simp] theorem setLine_delivery (l : LinkLine) (d : Device) : (setLine l d).delivery = d.delivery := rfl
@[simp] theorem setLine_reports (l : LinkLine) (d : Device) : (setLine l d).reports = d.reports := rfl
@[simp] theorem setLine_line (l : LinkLine) (d : Device) : (setLine l d).link.line = l := rfl
@[simp] theorem setLine_causes (l : LinkLine) (d : Device) : (setLine l d).link.causes = d.link.causes := rfl
@[simp] theorem setLine_enables (l : LinkLine) (d : Device) : (setLine l d).link.enables = d.link.enables := rfl
@[simp] theorem setLine_holder (l : LinkLine) (d : Device) : (setLine l d).link.holder = d.link.holder := rfl
@[simp] theorem setLine_requestBad (l : LinkLine) (d : Device) : (setLine l d).link.requestBad = d.link.requestBad := rfl

/-! What putting REQUEST_BAD changes. -/

@[simp] theorem setRequestBad_control (b : Bool) (d : Device) : (setRequestBad b d).control = d.control := rfl
@[simp] theorem setRequestBad_port (b : Bool) (d : Device) : (setRequestBad b d).port = d.port := rfl
@[simp] theorem setRequestBad_arbiter (b : Bool) (d : Device) : (setRequestBad b d).arbiter = d.arbiter := rfl
@[simp] theorem setRequestBad_ring (b : Bool) (d : Device) : (setRequestBad b d).ring = d.ring := rfl
@[simp] theorem setRequestBad_checker (b : Bool) (d : Device) : (setRequestBad b d).checker = d.checker := rfl
@[simp] theorem setRequestBad_map (b : Bool) (d : Device) : (setRequestBad b d).map = d.map := rfl
@[simp] theorem setRequestBad_engine (b : Bool) (d : Device) : (setRequestBad b d).engine = d.engine := rfl
@[simp] theorem setRequestBad_delivery (b : Bool) (d : Device) : (setRequestBad b d).delivery = d.delivery := rfl
@[simp] theorem setRequestBad_reports (b : Bool) (d : Device) : (setRequestBad b d).reports = d.reports := rfl
@[simp] theorem setRequestBad_line (b : Bool) (d : Device) : (setRequestBad b d).link.line = d.link.line := rfl
@[simp] theorem setRequestBad_causes (b : Bool) (d : Device) : (setRequestBad b d).link.causes = d.link.causes := rfl
@[simp] theorem setRequestBad_enables (b : Bool) (d : Device) : (setRequestBad b d).link.enables = d.link.enables := rfl
@[simp] theorem setRequestBad_holder (b : Bool) (d : Device) : (setRequestBad b d).link.holder = d.link.holder := rfl
@[simp] theorem setRequestBad_requestBad (b : Bool) (d : Device) : (setRequestBad b d).link.requestBad = b := rfl

/-! What putting the snapshot holder changes. -/

@[simp] theorem setHolder_control (h : Holder) (d : Device) : (setHolder h d).control = d.control := rfl
@[simp] theorem setHolder_port (h : Holder) (d : Device) : (setHolder h d).port = d.port := rfl
@[simp] theorem setHolder_arbiter (h : Holder) (d : Device) : (setHolder h d).arbiter = d.arbiter := rfl
@[simp] theorem setHolder_ring (h : Holder) (d : Device) : (setHolder h d).ring = d.ring := rfl
@[simp] theorem setHolder_checker (h : Holder) (d : Device) : (setHolder h d).checker = d.checker := rfl
@[simp] theorem setHolder_map (h : Holder) (d : Device) : (setHolder h d).map = d.map := rfl
@[simp] theorem setHolder_engine (h : Holder) (d : Device) : (setHolder h d).engine = d.engine := rfl
@[simp] theorem setHolder_delivery (h : Holder) (d : Device) : (setHolder h d).delivery = d.delivery := rfl
@[simp] theorem setHolder_reports (h : Holder) (d : Device) : (setHolder h d).reports = d.reports := rfl
@[simp] theorem setHolder_line (h : Holder) (d : Device) : (setHolder h d).link.line = d.link.line := rfl
@[simp] theorem setHolder_causes (h : Holder) (d : Device) : (setHolder h d).link.causes = d.link.causes := rfl
@[simp] theorem setHolder_enables (h : Holder) (d : Device) : (setHolder h d).link.enables = d.link.enables := rfl
@[simp] theorem setHolder_holder (h : Holder) (d : Device) : (setHolder h d).link.holder = h := rfl
@[simp] theorem setHolder_requestBad (h : Holder) (d : Device) : (setHolder h d).link.requestBad = d.link.requestBad := rfl

/-! What beginning a transaction changes. -/

@[simp] theorem beginTransaction_control (d : Device) : (beginTransaction d).control = d.control := rfl
@[simp] theorem beginTransaction_port (d : Device) : (beginTransaction d).port = d.port := rfl
@[simp] theorem beginTransaction_arbiter (d : Device) : (beginTransaction d).arbiter = d.arbiter := rfl
@[simp] theorem beginTransaction_ring (d : Device) : (beginTransaction d).ring = d.ring := rfl
@[simp] theorem beginTransaction_checker (d : Device) : (beginTransaction d).checker = d.checker := rfl
@[simp] theorem beginTransaction_map (d : Device) : (beginTransaction d).map = d.map := rfl
@[simp] theorem beginTransaction_engine (d : Device) : (beginTransaction d).engine = d.engine := rfl
@[simp] theorem beginTransaction_delivery (d : Device) : (beginTransaction d).delivery = d.delivery := rfl
@[simp] theorem beginTransaction_reports (d : Device) : (beginTransaction d).reports = d.reports := rfl

/-! What storing WRITE SETTINGS changes. -/

@[simp] theorem storeSettings_port (p : List Byte) (d : Device) : (storeSettings p d).port = d.port := rfl
@[simp] theorem storeSettings_arbiter (p : List Byte) (d : Device) : (storeSettings p d).arbiter = d.arbiter := rfl
@[simp] theorem storeSettings_ring (p : List Byte) (d : Device) : (storeSettings p d).ring = d.ring := rfl
@[simp] theorem storeSettings_checker (p : List Byte) (d : Device) : (storeSettings p d).checker = d.checker := rfl
@[simp] theorem storeSettings_map (p : List Byte) (d : Device) : (storeSettings p d).map = d.map := rfl
@[simp] theorem storeSettings_engine (p : List Byte) (d : Device) : (storeSettings p d).engine = d.engine := rfl
@[simp] theorem storeSettings_delivery (p : List Byte) (d : Device) : (storeSettings p d).delivery = d.delivery := rfl
@[simp] theorem storeSettings_reports (p : List Byte) (d : Device) : (storeSettings p d).reports = d.reports := rfl
@[simp] theorem storeSettings_link (p : List Byte) (d : Device) : (storeSettings p d).link = d.link := rfl

/-! What storing CLEAR ATTENTION changes. -/

@[simp] theorem storeClear_control (p : List Byte) (d : Device) : (storeClear p d).control = d.control := rfl
@[simp] theorem storeClear_port (p : List Byte) (d : Device) : (storeClear p d).port = d.port := rfl
@[simp] theorem storeClear_arbiter (p : List Byte) (d : Device) : (storeClear p d).arbiter = d.arbiter := rfl
@[simp] theorem storeClear_ring (p : List Byte) (d : Device) : (storeClear p d).ring = d.ring := rfl
@[simp] theorem storeClear_checker (p : List Byte) (d : Device) : (storeClear p d).checker = d.checker := rfl
@[simp] theorem storeClear_map (p : List Byte) (d : Device) : (storeClear p d).map = d.map := rfl
@[simp] theorem storeClear_engine (p : List Byte) (d : Device) : (storeClear p d).engine = d.engine := rfl
@[simp] theorem storeClear_delivery (p : List Byte) (d : Device) : (storeClear p d).delivery = d.delivery := rfl
@[simp] theorem storeClear_reports (p : List Byte) (d : Device) : (storeClear p d).reports = d.reports := rfl

/-! What storing SET ATTENTION ENABLE changes. -/

@[simp] theorem storeEnables_control (p : List Byte) (d : Device) : (storeEnables p d).control = d.control := rfl
@[simp] theorem storeEnables_port (p : List Byte) (d : Device) : (storeEnables p d).port = d.port := rfl
@[simp] theorem storeEnables_arbiter (p : List Byte) (d : Device) : (storeEnables p d).arbiter = d.arbiter := rfl
@[simp] theorem storeEnables_ring (p : List Byte) (d : Device) : (storeEnables p d).ring = d.ring := rfl
@[simp] theorem storeEnables_checker (p : List Byte) (d : Device) : (storeEnables p d).checker = d.checker := rfl
@[simp] theorem storeEnables_map (p : List Byte) (d : Device) : (storeEnables p d).map = d.map := rfl
@[simp] theorem storeEnables_engine (p : List Byte) (d : Device) : (storeEnables p d).engine = d.engine := rfl
@[simp] theorem storeEnables_delivery (p : List Byte) (d : Device) : (storeEnables p d).delivery = d.delivery := rfl
@[simp] theorem storeEnables_reports (p : List Byte) (d : Device) : (storeEnables p d).reports = d.reports := rfl

/-! What refusing an ARM changes. -/

@[simp] theorem refuseArm_port (n : Nat) (d : Device) : (refuseArm n d).port = d.port := rfl
@[simp] theorem refuseArm_arbiter (n : Nat) (d : Device) : (refuseArm n d).arbiter = d.arbiter := rfl
@[simp] theorem refuseArm_ring (n : Nat) (d : Device) : (refuseArm n d).ring = d.ring := rfl
@[simp] theorem refuseArm_checker (n : Nat) (d : Device) : (refuseArm n d).checker = d.checker := rfl
@[simp] theorem refuseArm_map (n : Nat) (d : Device) : (refuseArm n d).map = d.map := rfl
@[simp] theorem refuseArm_engine (n : Nat) (d : Device) : (refuseArm n d).engine = d.engine := rfl
@[simp] theorem refuseArm_delivery (n : Nat) (d : Device) : (refuseArm n d).delivery = d.delivery := rfl
@[simp] theorem refuseArm_reports (n : Nat) (d : Device) : (refuseArm n d).reports = d.reports := rfl

/-! What accepting an ARM changes. -/

@[simp] theorem armPart_port (d : Device) : (armPart d).port = d.port := rfl
@[simp] theorem armPart_arbiter (d : Device) : (armPart d).arbiter = d.arbiter := rfl
@[simp] theorem armPart_checker (d : Device) : (armPart d).checker = d.checker := rfl
@[simp] theorem armPart_delivery (d : Device) : (armPart d).delivery = d.delivery := rfl
@[simp] theorem armPart_link (d : Device) : (armPart d).link = d.link := rfl

/-! A command's effect on the whole machine. -/

@[simp] theorem onDevice_toDevice (s : State) (f : Device → Device) : (s.onDevice f).toDevice = f s.toDevice := rfl
@[simp] theorem onDevice_pending (s : State) (f : Device → Device) : (s.onDevice f).pending = s.pending := rfl

end Sys2Proof.Machine
end

