-- ==== Sys2Proof/Laws/Frames.lean ====
section
/-! SUPPORT. What each shared operation leaves alone: for every operation and every block of the part that it cannot change, one
lemma. Together they say once what an operation can touch (its frame); a proof about a block passes by every operation that
leaves that block alone. -/

namespace Sys2Proof.Machine

set_option linter.unnecessarySeqFocus false

/-! `loseLine` -/

@[simp] theorem loseLine_control (s : Nat) (b : Bool) (d : Device) : (loseLine s b d).control = d.control :=
  by simp only [loseLine] <;> (repeat' split) <;> simp
@[simp] theorem loseLine_port (s : Nat) (b : Bool) (d : Device) : (loseLine s b d).port = d.port :=
  by simp only [loseLine] <;> (repeat' split) <;> simp
@[simp] theorem loseLine_arbiter (s : Nat) (b : Bool) (d : Device) : (loseLine s b d).arbiter = d.arbiter :=
  by simp only [loseLine] <;> (repeat' split) <;> simp
@[simp] theorem loseLine_checker (s : Nat) (b : Bool) (d : Device) : (loseLine s b d).checker = d.checker :=
  by simp only [loseLine] <;> (repeat' split) <;> simp
@[simp] theorem loseLine_map (s : Nat) (b : Bool) (d : Device) : (loseLine s b d).map = d.map :=
  by simp only [loseLine] <;> (repeat' split) <;> simp
@[simp] theorem loseLine_engine (s : Nat) (b : Bool) (d : Device) : (loseLine s b d).engine = d.engine :=
  by simp only [loseLine] <;> (repeat' split) <;> simp
@[simp] theorem loseLine_delivery (s : Nat) (b : Bool) (d : Device) : (loseLine s b d).delivery = d.delivery :=
  by simp only [loseLine] <;> (repeat' split) <;> simp

/-! `handOver` -/

@[simp] theorem handOver_control (s i : Nat) (c : Causes) (b : Bool) (d : Device) : (handOver s i c b d).control = d.control :=
  by simp only [handOver] <;> (repeat' split) <;> simp
@[simp] theorem handOver_port (s i : Nat) (c : Causes) (b : Bool) (d : Device) : (handOver s i c b d).port = d.port :=
  by simp only [handOver] <;> (repeat' split) <;> simp
@[simp] theorem handOver_arbiter (s i : Nat) (c : Causes) (b : Bool) (d : Device) : (handOver s i c b d).arbiter = d.arbiter :=
  by simp only [handOver] <;> (repeat' split) <;> simp
@[simp] theorem handOver_checker (s i : Nat) (c : Causes) (b : Bool) (d : Device) : (handOver s i c b d).checker = d.checker :=
  by simp only [handOver] <;> (repeat' split) <;> simp
@[simp] theorem handOver_engine (s i : Nat) (c : Causes) (b : Bool) (d : Device) : (handOver s i c b d).engine = d.engine :=
  by simp only [handOver] <;> (repeat' split) <;> simp
@[simp] theorem handOver_delivery (s i : Nat) (c : Causes) (b : Bool) (d : Device) : (handOver s i c b d).delivery = d.delivery :=
  by simp only [handOver] <;> (repeat' split) <;> simp

/-! `countFrame` -/

@[simp] theorem countFrame_control (k : EndKind) (d : Device) : (countFrame k d).control = d.control :=
  by cases k <;> rfl
@[simp] theorem countFrame_port (k : EndKind) (d : Device) : (countFrame k d).port = d.port :=
  by cases k <;> rfl
@[simp] theorem countFrame_arbiter (k : EndKind) (d : Device) : (countFrame k d).arbiter = d.arbiter :=
  by cases k <;> rfl
@[simp] theorem countFrame_ring (k : EndKind) (d : Device) : (countFrame k d).ring = d.ring :=
  by cases k <;> rfl
@[simp] theorem countFrame_checker (k : EndKind) (d : Device) : (countFrame k d).checker = d.checker :=
  by cases k <;> rfl
@[simp] theorem countFrame_map (k : EndKind) (d : Device) : (countFrame k d).map = d.map :=
  by cases k <;> rfl
@[simp] theorem countFrame_engine (k : EndKind) (d : Device) : (countFrame k d).engine = d.engine :=
  by cases k <;> rfl
@[simp] theorem countFrame_delivery (k : EndKind) (d : Device) : (countFrame k d).delivery = d.delivery :=
  by cases k <;> rfl
@[simp] theorem countFrame_link (k : EndKind) (d : Device) : (countFrame k d).link = d.link :=
  by cases k <;> rfl

/-! `foldQuality` -/

@[simp] theorem foldQuality_control (q : Nat) (d : Device) : (foldQuality q d).control = d.control :=
  by simp only [foldQuality] <;> (repeat' split) <;> simp
@[simp] theorem foldQuality_port (q : Nat) (d : Device) : (foldQuality q d).port = d.port :=
  by simp only [foldQuality] <;> (repeat' split) <;> simp
@[simp] theorem foldQuality_arbiter (q : Nat) (d : Device) : (foldQuality q d).arbiter = d.arbiter :=
  by simp only [foldQuality] <;> (repeat' split) <;> simp
@[simp] theorem foldQuality_ring (q : Nat) (d : Device) : (foldQuality q d).ring = d.ring :=
  by simp only [foldQuality] <;> (repeat' split) <;> simp
@[simp] theorem foldQuality_checker (q : Nat) (d : Device) : (foldQuality q d).checker = d.checker :=
  by simp only [foldQuality] <;> (repeat' split) <;> simp
@[simp] theorem foldQuality_map (q : Nat) (d : Device) : (foldQuality q d).map = d.map :=
  by simp only [foldQuality] <;> (repeat' split) <;> simp
@[simp] theorem foldQuality_engine (q : Nat) (d : Device) : (foldQuality q d).engine = d.engine :=
  by simp only [foldQuality] <;> (repeat' split) <;> simp
@[simp] theorem foldQuality_delivery (q : Nat) (d : Device) : (foldQuality q d).delivery = d.delivery :=
  by simp only [foldQuality] <;> (repeat' split) <;> simp

/-! `offerReport` -/

@[simp] theorem offerReport_control (r : FrameReport) (d : Device) : (offerReport r d).control = d.control :=
  by simp only [offerReport] <;> (repeat' split) <;> simp
@[simp] theorem offerReport_port (r : FrameReport) (d : Device) : (offerReport r d).port = d.port :=
  by simp only [offerReport] <;> (repeat' split) <;> simp
@[simp] theorem offerReport_arbiter (r : FrameReport) (d : Device) : (offerReport r d).arbiter = d.arbiter :=
  by simp only [offerReport] <;> (repeat' split) <;> simp
@[simp] theorem offerReport_ring (r : FrameReport) (d : Device) : (offerReport r d).ring = d.ring :=
  by simp only [offerReport] <;> (repeat' split) <;> simp
@[simp] theorem offerReport_checker (r : FrameReport) (d : Device) : (offerReport r d).checker = d.checker :=
  by simp only [offerReport] <;> (repeat' split) <;> simp
@[simp] theorem offerReport_map (r : FrameReport) (d : Device) : (offerReport r d).map = d.map :=
  by simp only [offerReport] <;> (repeat' split) <;> simp
@[simp] theorem offerReport_engine (r : FrameReport) (d : Device) : (offerReport r d).engine = d.engine :=
  by simp only [offerReport] <;> (repeat' split) <;> simp
@[simp] theorem offerReport_delivery (r : FrameReport) (d : Device) : (offerReport r d).delivery = d.delivery :=
  by simp only [offerReport] <;> (repeat' split) <;> simp

/-! `report` -/

@[simp] theorem report_control (e : Ending) (d : Device) : (report e d).control = d.control :=
  by simp only [report] <;> simp
@[simp] theorem report_port (e : Ending) (d : Device) : (report e d).port = d.port :=
  by simp only [report] <;> simp
@[simp] theorem report_arbiter (e : Ending) (d : Device) : (report e d).arbiter = d.arbiter :=
  by simp only [report] <;> simp
@[simp] theorem report_ring (e : Ending) (d : Device) : (report e d).ring = d.ring :=
  by simp only [report] <;> simp
@[simp] theorem report_checker (e : Ending) (d : Device) : (report e d).checker = d.checker :=
  by simp only [report] <;> simp
@[simp] theorem report_map (e : Ending) (d : Device) : (report e d).map = d.map :=
  by simp only [report] <;> simp
@[simp] theorem report_engine (e : Ending) (d : Device) : (report e d).engine = d.engine :=
  by simp only [report] <;> simp
@[simp] theorem report_delivery (e : Ending) (d : Device) : (report e d).delivery = d.delivery :=
  by simp only [report] <;> simp

/-! `countDecision` -/

@[simp] theorem countDecision_control (s i : Nat) (e : LineEntry) (d : Device) : (countDecision s i e d).control = d.control :=
  by cases e <;> simp only [countDecision] <;> (repeat' split) <;> simp
@[simp] theorem countDecision_port (s i : Nat) (e : LineEntry) (d : Device) : (countDecision s i e d).port = d.port :=
  by cases e <;> simp only [countDecision] <;> (repeat' split) <;> simp
@[simp] theorem countDecision_arbiter (s i : Nat) (e : LineEntry) (d : Device) : (countDecision s i e d).arbiter = d.arbiter :=
  by cases e <;> simp only [countDecision] <;> (repeat' split) <;> simp
@[simp] theorem countDecision_ring (s i : Nat) (e : LineEntry) (d : Device) : (countDecision s i e d).ring = d.ring :=
  by cases e <;> simp only [countDecision] <;> (repeat' split) <;> simp
@[simp] theorem countDecision_checker (s i : Nat) (e : LineEntry) (d : Device) : (countDecision s i e d).checker = d.checker :=
  by cases e <;> simp only [countDecision] <;> (repeat' split) <;> simp
@[simp] theorem countDecision_map (s i : Nat) (e : LineEntry) (d : Device) : (countDecision s i e d).map = d.map :=
  by cases e <;> simp only [countDecision] <;> (repeat' split) <;> simp
@[simp] theorem countDecision_engine (s i : Nat) (e : LineEntry) (d : Device) : (countDecision s i e d).engine = d.engine :=
  by cases e <;> simp only [countDecision] <;> (repeat' split) <;> simp
@[simp] theorem countDecision_delivery (s i : Nat) (e : LineEntry) (d : Device) : (countDecision s i e d).delivery = d.delivery :=
  by cases e <;> simp only [countDecision] <;> (repeat' split) <;> simp
@[simp] theorem countDecision_link (s i : Nat) (e : LineEntry) (d : Device) : (countDecision s i e d).link = d.link :=
  by cases e <;> simp only [countDecision] <;> (repeat' split) <;> simp

/-! `settleLine` -/

@[simp] theorem settleLine_control (s i : Nat) (e : LineEntry) (d : Device) : (settleLine s i e d).control = d.control :=
  by simp only [settleLine] <;> simp
@[simp] theorem settleLine_port (s i : Nat) (e : LineEntry) (d : Device) : (settleLine s i e d).port = d.port :=
  by simp only [settleLine] <;> simp
@[simp] theorem settleLine_arbiter (s i : Nat) (e : LineEntry) (d : Device) : (settleLine s i e d).arbiter = d.arbiter :=
  by simp only [settleLine] <;> simp
@[simp] theorem settleLine_ring (s i : Nat) (e : LineEntry) (d : Device) : (settleLine s i e d).ring = d.ring :=
  by simp only [settleLine] <;> simp
@[simp] theorem settleLine_checker (s i : Nat) (e : LineEntry) (d : Device) : (settleLine s i e d).checker = d.checker :=
  by simp only [settleLine] <;> simp
@[simp] theorem settleLine_map (s i : Nat) (e : LineEntry) (d : Device) : (settleLine s i e d).map = d.map :=
  by simp only [settleLine] <;> simp
@[simp] theorem settleLine_engine (s i : Nat) (e : LineEntry) (d : Device) : (settleLine s i e d).engine = d.engine :=
  by simp only [settleLine] <;> simp
@[simp] theorem settleLine_link (s i : Nat) (e : LineEntry) (d : Device) : (settleLine s i e d).link = d.link :=
  by simp only [settleLine] <;> simp

/-! `takeHold` -/

@[simp] theorem takeHold_control (i : Nat) (d : Device) : (takeHold i d).control = d.control :=
  by simp only [takeHold] <;> simp
@[simp] theorem takeHold_port (i : Nat) (d : Device) : (takeHold i d).port = d.port :=
  by simp only [takeHold] <;> simp
@[simp] theorem takeHold_arbiter (i : Nat) (d : Device) : (takeHold i d).arbiter = d.arbiter :=
  by simp only [takeHold] <;> simp
@[simp] theorem takeHold_ring (i : Nat) (d : Device) : (takeHold i d).ring = d.ring :=
  by simp only [takeHold] <;> simp
@[simp] theorem takeHold_checker (i : Nat) (d : Device) : (takeHold i d).checker = d.checker :=
  by simp only [takeHold] <;> simp
@[simp] theorem takeHold_map (i : Nat) (d : Device) : (takeHold i d).map = d.map :=
  by simp only [takeHold] <;> simp
@[simp] theorem takeHold_engine (i : Nat) (d : Device) : (takeHold i d).engine = d.engine :=
  by simp only [takeHold] <;> simp
@[simp] theorem takeHold_link (i : Nat) (d : Device) : (takeHold i d).link = d.link :=
  by simp only [takeHold] <;> simp

/-! `decideLine` -/

@[simp] theorem decideLine_control (r : DrainRecord) (i : Nat) (d : Device) : (decideLine r i d).control = d.control :=
  by simp only [decideLine] <;> (repeat' split) <;> simp
@[simp] theorem decideLine_port (r : DrainRecord) (i : Nat) (d : Device) : (decideLine r i d).port = d.port :=
  by simp only [decideLine] <;> (repeat' split) <;> simp
@[simp] theorem decideLine_arbiter (r : DrainRecord) (i : Nat) (d : Device) : (decideLine r i d).arbiter = d.arbiter :=
  by simp only [decideLine] <;> (repeat' split) <;> simp
@[simp] theorem decideLine_ring (r : DrainRecord) (i : Nat) (d : Device) : (decideLine r i d).ring = d.ring :=
  by simp only [decideLine] <;> (repeat' split) <;> simp
@[simp] theorem decideLine_checker (r : DrainRecord) (i : Nat) (d : Device) : (decideLine r i d).checker = d.checker :=
  by simp only [decideLine] <;> (repeat' split) <;> simp
@[simp] theorem decideLine_map (r : DrainRecord) (i : Nat) (d : Device) : (decideLine r i d).map = d.map :=
  by simp only [decideLine] <;> (repeat' split) <;> simp
@[simp] theorem decideLine_engine (r : DrainRecord) (i : Nat) (d : Device) : (decideLine r i d).engine = d.engine :=
  by simp only [decideLine] <;> (repeat' split) <;> simp
@[simp] theorem decideLine_link (r : DrainRecord) (i : Nat) (d : Device) : (decideLine r i d).link = d.link :=
  by simp only [decideLine] <;> (repeat' split) <;> simp

/-! `askSample` -/

@[simp] theorem askSample_control (i q : Nat) (d : Device) : ((askSample i q d).1).control = d.control :=
  by simp only [askSample] <;> (repeat' split) <;> simp
@[simp] theorem askSample_port (i q : Nat) (d : Device) : ((askSample i q d).1).port = d.port :=
  by simp only [askSample] <;> (repeat' split) <;> simp
@[simp] theorem askSample_arbiter (i q : Nat) (d : Device) : ((askSample i q d).1).arbiter = d.arbiter :=
  by simp only [askSample] <;> (repeat' split) <;> simp
@[simp] theorem askSample_ring (i q : Nat) (d : Device) : ((askSample i q d).1).ring = d.ring :=
  by simp only [askSample] <;> (repeat' split) <;> simp
@[simp] theorem askSample_checker (i q : Nat) (d : Device) : ((askSample i q d).1).checker = d.checker :=
  by simp only [askSample] <;> (repeat' split) <;> simp
@[simp] theorem askSample_map (i q : Nat) (d : Device) : ((askSample i q d).1).map = d.map :=
  by simp only [askSample] <;> (repeat' split) <;> simp
@[simp] theorem askSample_engine (i q : Nat) (d : Device) : ((askSample i q d).1).engine = d.engine :=
  by simp only [askSample] <;> (repeat' split) <;> simp
@[simp] theorem askSample_link (i q : Nat) (d : Device) : ((askSample i q d).1).link = d.link :=
  by simp only [askSample] <;> (repeat' split) <;> simp

/-! `chargeHold` -/

@[simp] theorem chargeHold_control (c : Nat) (d : Device) : (chargeHold c d).control = d.control :=
  by simp only [chargeHold] <;> (repeat' split) <;> simp
@[simp] theorem chargeHold_port (c : Nat) (d : Device) : (chargeHold c d).port = d.port :=
  by simp only [chargeHold] <;> (repeat' split) <;> simp
@[simp] theorem chargeHold_arbiter (c : Nat) (d : Device) : (chargeHold c d).arbiter = d.arbiter :=
  by simp only [chargeHold] <;> (repeat' split) <;> simp
@[simp] theorem chargeHold_ring (c : Nat) (d : Device) : (chargeHold c d).ring = d.ring :=
  by simp only [chargeHold] <;> (repeat' split) <;> simp
@[simp] theorem chargeHold_checker (c : Nat) (d : Device) : (chargeHold c d).checker = d.checker :=
  by simp only [chargeHold] <;> (repeat' split) <;> simp
@[simp] theorem chargeHold_map (c : Nat) (d : Device) : (chargeHold c d).map = d.map :=
  by simp only [chargeHold] <;> (repeat' split) <;> simp
@[simp] theorem chargeHold_engine (c : Nat) (d : Device) : (chargeHold c d).engine = d.engine :=
  by simp only [chargeHold] <;> (repeat' split) <;> simp
@[simp] theorem chargeHold_reports (c : Nat) (d : Device) : (chargeHold c d).reports = d.reports :=
  by simp only [chargeHold] <;> (repeat' split) <;> simp

/-! `releaseByWriteBack` -/

@[simp] theorem releaseByWriteBack_control (s i : Nat) (d : Device) : (releaseByWriteBack s i d).control = d.control :=
  by simp only [releaseByWriteBack] <;> (repeat' split) <;> simp
@[simp] theorem releaseByWriteBack_arbiter (s i : Nat) (d : Device) : (releaseByWriteBack s i d).arbiter = d.arbiter :=
  by simp only [releaseByWriteBack] <;> (repeat' split) <;> simp
@[simp] theorem releaseByWriteBack_ring (s i : Nat) (d : Device) : (releaseByWriteBack s i d).ring = d.ring :=
  by simp only [releaseByWriteBack] <;> (repeat' split) <;> simp
@[simp] theorem releaseByWriteBack_checker (s i : Nat) (d : Device) : (releaseByWriteBack s i d).checker = d.checker :=
  by simp only [releaseByWriteBack] <;> (repeat' split) <;> simp
@[simp] theorem releaseByWriteBack_map (s i : Nat) (d : Device) : (releaseByWriteBack s i d).map = d.map :=
  by simp only [releaseByWriteBack] <;> (repeat' split) <;> simp
@[simp] theorem releaseByWriteBack_engine (s i : Nat) (d : Device) : (releaseByWriteBack s i d).engine = d.engine :=
  by simp only [releaseByWriteBack] <;> (repeat' split) <;> simp

/-! `expireHold` -/

@[simp] theorem expireHold_control (d : Device) : (expireHold d).control = d.control :=
  by simp only [expireHold] <;> (repeat' split) <;> simp
@[simp] theorem expireHold_arbiter (d : Device) : (expireHold d).arbiter = d.arbiter :=
  by simp only [expireHold] <;> (repeat' split) <;> simp
@[simp] theorem expireHold_ring (d : Device) : (expireHold d).ring = d.ring :=
  by simp only [expireHold] <;> (repeat' split) <;> simp
@[simp] theorem expireHold_checker (d : Device) : (expireHold d).checker = d.checker :=
  by simp only [expireHold] <;> (repeat' split) <;> simp
@[simp] theorem expireHold_map (d : Device) : (expireHold d).map = d.map :=
  by simp only [expireHold] <;> (repeat' split) <;> simp
@[simp] theorem expireHold_engine (d : Device) : (expireHold d).engine = d.engine :=
  by simp only [expireHold] <;> (repeat' split) <;> simp

/-! `tickHold` -/

@[simp] theorem tickHold_control (d : Device) : (tickHold d).control = d.control :=
  by simp only [tickHold] <;> (repeat' split) <;> simp
@[simp] theorem tickHold_arbiter (d : Device) : (tickHold d).arbiter = d.arbiter :=
  by simp only [tickHold] <;> (repeat' split) <;> simp
@[simp] theorem tickHold_ring (d : Device) : (tickHold d).ring = d.ring :=
  by simp only [tickHold] <;> (repeat' split) <;> simp
@[simp] theorem tickHold_checker (d : Device) : (tickHold d).checker = d.checker :=
  by simp only [tickHold] <;> (repeat' split) <;> simp
@[simp] theorem tickHold_map (d : Device) : (tickHold d).map = d.map :=
  by simp only [tickHold] <;> (repeat' split) <;> simp
@[simp] theorem tickHold_engine (d : Device) : (tickHold d).engine = d.engine :=
  by simp only [tickHold] <;> (repeat' split) <;> simp

/-! `handOverRecord` -/

@[simp] theorem handOverRecord_control (r : DrainRecord) (d : Device) : (handOverRecord r d).control = d.control :=
  by simp only [handOverRecord] <;> simp
@[simp] theorem handOverRecord_port (r : DrainRecord) (d : Device) : (handOverRecord r d).port = d.port :=
  by simp only [handOverRecord] <;> simp
@[simp] theorem handOverRecord_arbiter (r : DrainRecord) (d : Device) : (handOverRecord r d).arbiter = d.arbiter :=
  by simp only [handOverRecord] <;> simp
@[simp] theorem handOverRecord_ring (r : DrainRecord) (d : Device) : (handOverRecord r d).ring = d.ring :=
  by simp only [handOverRecord] <;> simp
@[simp] theorem handOverRecord_checker (r : DrainRecord) (d : Device) : (handOverRecord r d).checker = d.checker :=
  by simp only [handOverRecord] <;> simp
@[simp] theorem handOverRecord_map (r : DrainRecord) (d : Device) : (handOverRecord r d).map = d.map :=
  by simp only [handOverRecord] <;> simp
@[simp] theorem handOverRecord_engine (r : DrainRecord) (d : Device) : (handOverRecord r d).engine = d.engine :=
  by simp only [handOverRecord] <;> simp
@[simp] theorem handOverRecord_delivery (r : DrainRecord) (d : Device) : (handOverRecord r d).delivery = d.delivery :=
  by simp only [handOverRecord] <;> simp

/-! `handOverClosing` -/

@[simp] theorem handOverClosing_control (d : Device) : (handOverClosing d).control = d.control :=
  by simp only [handOverClosing] <;> (repeat' split) <;> simp
@[simp] theorem handOverClosing_port (d : Device) : (handOverClosing d).port = d.port :=
  by simp only [handOverClosing] <;> (repeat' split) <;> simp
@[simp] theorem handOverClosing_arbiter (d : Device) : (handOverClosing d).arbiter = d.arbiter :=
  by simp only [handOverClosing] <;> (repeat' split) <;> simp
@[simp] theorem handOverClosing_ring (d : Device) : (handOverClosing d).ring = d.ring :=
  by simp only [handOverClosing] <;> (repeat' split) <;> simp
@[simp] theorem handOverClosing_checker (d : Device) : (handOverClosing d).checker = d.checker :=
  by simp only [handOverClosing] <;> (repeat' split) <;> simp
@[simp] theorem handOverClosing_map (d : Device) : (handOverClosing d).map = d.map :=
  by simp only [handOverClosing] <;> (repeat' split) <;> simp
@[simp] theorem handOverClosing_engine (d : Device) : (handOverClosing d).engine = d.engine :=
  by simp only [handOverClosing] <;> (repeat' split) <;> simp

/-! `handOverDraining` -/

@[simp] theorem handOverDraining_control (k : EndKind) (d : Device) : (handOverDraining k d).control = d.control :=
  by simp only [handOverDraining] <;> (repeat' split) <;> simp
@[simp] theorem handOverDraining_port (k : EndKind) (d : Device) : (handOverDraining k d).port = d.port :=
  by simp only [handOverDraining] <;> (repeat' split) <;> simp
@[simp] theorem handOverDraining_arbiter (k : EndKind) (d : Device) : (handOverDraining k d).arbiter = d.arbiter :=
  by simp only [handOverDraining] <;> (repeat' split) <;> simp
@[simp] theorem handOverDraining_ring (k : EndKind) (d : Device) : (handOverDraining k d).ring = d.ring :=
  by simp only [handOverDraining] <;> (repeat' split) <;> simp
@[simp] theorem handOverDraining_checker (k : EndKind) (d : Device) : (handOverDraining k d).checker = d.checker :=
  by simp only [handOverDraining] <;> (repeat' split) <;> simp
@[simp] theorem handOverDraining_map (k : EndKind) (d : Device) : (handOverDraining k d).map = d.map :=
  by simp only [handOverDraining] <;> (repeat' split) <;> simp
@[simp] theorem handOverDraining_engine (k : EndKind) (d : Device) : (handOverDraining k d).engine = d.engine :=
  by simp only [handOverDraining] <;> (repeat' split) <;> simp

/-! `closeRecord` -/

@[simp] theorem closeRecord_control (d : Device) : (closeRecord d).control = d.control :=
  by simp only [closeRecord] <;> (repeat' split) <;> simp
@[simp] theorem closeRecord_port (d : Device) : (closeRecord d).port = d.port :=
  by simp only [closeRecord] <;> (repeat' split) <;> simp
@[simp] theorem closeRecord_arbiter (d : Device) : (closeRecord d).arbiter = d.arbiter :=
  by simp only [closeRecord] <;> (repeat' split) <;> simp
@[simp] theorem closeRecord_ring (d : Device) : (closeRecord d).ring = d.ring :=
  by simp only [closeRecord] <;> (repeat' split) <;> simp
@[simp] theorem closeRecord_checker (d : Device) : (closeRecord d).checker = d.checker :=
  by simp only [closeRecord] <;> (repeat' split) <;> simp
@[simp] theorem closeRecord_map (d : Device) : (closeRecord d).map = d.map :=
  by simp only [closeRecord] <;> (repeat' split) <;> simp
@[simp] theorem closeRecord_engine (d : Device) : (closeRecord d).engine = d.engine :=
  by simp only [closeRecord] <;> (repeat' split) <;> simp

/-! `trackBeat` -/

@[simp] theorem trackBeat_control (p : Passing) (d : Device) : (trackBeat p d).control = d.control :=
  by simp only [trackBeat] <;> (repeat' split) <;> simp
@[simp] theorem trackBeat_port (p : Passing) (d : Device) : (trackBeat p d).port = d.port :=
  by simp only [trackBeat] <;> (repeat' split) <;> simp
@[simp] theorem trackBeat_arbiter (p : Passing) (d : Device) : (trackBeat p d).arbiter = d.arbiter :=
  by simp only [trackBeat] <;> (repeat' split) <;> simp
@[simp] theorem trackBeat_ring (p : Passing) (d : Device) : (trackBeat p d).ring = d.ring :=
  by simp only [trackBeat] <;> (repeat' split) <;> simp
@[simp] theorem trackBeat_checker (p : Passing) (d : Device) : (trackBeat p d).checker = d.checker :=
  by simp only [trackBeat] <;> (repeat' split) <;> simp
@[simp] theorem trackBeat_map (p : Passing) (d : Device) : (trackBeat p d).map = d.map :=
  by simp only [trackBeat] <;> (repeat' split) <;> simp
@[simp] theorem trackBeat_engine (p : Passing) (d : Device) : (trackBeat p d).engine = d.engine :=
  by simp only [trackBeat] <;> (repeat' split) <;> simp
@[simp] theorem trackBeat_link (p : Passing) (d : Device) : (trackBeat p d).link = d.link :=
  by simp only [trackBeat] <;> (repeat' split) <;> simp

/-! `deliverBeat` -/

@[simp] theorem deliverBeat_control (t : BeatTag) (b : Beat) (d : Device) : ((deliverBeat t b d).1).control = d.control :=
  by simp only [deliverBeat] <;> (repeat' split) <;> simp
@[simp] theorem deliverBeat_port (t : BeatTag) (b : Beat) (d : Device) : ((deliverBeat t b d).1).port = d.port :=
  by simp only [deliverBeat] <;> (repeat' split) <;> simp
@[simp] theorem deliverBeat_arbiter (t : BeatTag) (b : Beat) (d : Device) : ((deliverBeat t b d).1).arbiter = d.arbiter :=
  by simp only [deliverBeat] <;> (repeat' split) <;> simp
@[simp] theorem deliverBeat_ring (t : BeatTag) (b : Beat) (d : Device) : ((deliverBeat t b d).1).ring = d.ring :=
  by simp only [deliverBeat] <;> (repeat' split) <;> simp
@[simp] theorem deliverBeat_checker (t : BeatTag) (b : Beat) (d : Device) : ((deliverBeat t b d).1).checker = d.checker :=
  by simp only [deliverBeat] <;> (repeat' split) <;> simp
@[simp] theorem deliverBeat_map (t : BeatTag) (b : Beat) (d : Device) : ((deliverBeat t b d).1).map = d.map :=
  by simp only [deliverBeat] <;> (repeat' split) <;> simp
@[simp] theorem deliverBeat_engine (t : BeatTag) (b : Beat) (d : Device) : ((deliverBeat t b d).1).engine = d.engine :=
  by simp only [deliverBeat] <;> (repeat' split) <;> simp

/-! `passThrough` -/

@[simp] theorem passThrough_control (t : Option BeatTag) (b : Beat) (d : Device) : ((passThrough t b d).1).control = d.control :=
  by simp only [passThrough] <;> (repeat' split) <;> simp
@[simp] theorem passThrough_port (t : Option BeatTag) (b : Beat) (d : Device) : ((passThrough t b d).1).port = d.port :=
  by simp only [passThrough] <;> (repeat' split) <;> simp
@[simp] theorem passThrough_arbiter (t : Option BeatTag) (b : Beat) (d : Device) : ((passThrough t b d).1).arbiter = d.arbiter :=
  by simp only [passThrough] <;> (repeat' split) <;> simp
@[simp] theorem passThrough_ring (t : Option BeatTag) (b : Beat) (d : Device) : ((passThrough t b d).1).ring = d.ring :=
  by simp only [passThrough] <;> (repeat' split) <;> simp
@[simp] theorem passThrough_checker (t : Option BeatTag) (b : Beat) (d : Device) : ((passThrough t b d).1).checker = d.checker :=
  by simp only [passThrough] <;> (repeat' split) <;> simp
@[simp] theorem passThrough_map (t : Option BeatTag) (b : Beat) (d : Device) : ((passThrough t b d).1).map = d.map :=
  by simp only [passThrough] <;> (repeat' split) <;> simp
@[simp] theorem passThrough_engine (t : Option BeatTag) (b : Beat) (d : Device) : ((passThrough t b d).1).engine = d.engine :=
  by simp only [passThrough] <;> (repeat' split) <;> simp

/-! `finishSpan` -/

@[simp] theorem finishSpan_control (j : Job) (d : Device) : (finishSpan j d).control = d.control :=
  by simp only [finishSpan] <;> simp
@[simp] theorem finishSpan_port (j : Job) (d : Device) : (finishSpan j d).port = d.port :=
  by simp only [finishSpan] <;> simp
@[simp] theorem finishSpan_arbiter (j : Job) (d : Device) : (finishSpan j d).arbiter = d.arbiter :=
  by simp only [finishSpan] <;> simp
@[simp] theorem finishSpan_ring (j : Job) (d : Device) : (finishSpan j d).ring = d.ring :=
  by simp only [finishSpan] <;> simp
@[simp] theorem finishSpan_checker (j : Job) (d : Device) : (finishSpan j d).checker = d.checker :=
  by simp only [finishSpan] <;> simp
@[simp] theorem finishSpan_delivery (j : Job) (d : Device) : (finishSpan j d).delivery = d.delivery :=
  by simp only [finishSpan] <;> simp
@[simp] theorem finishSpan_reports (j : Job) (d : Device) : (finishSpan j d).reports = d.reports :=
  by simp only [finishSpan] <;> simp
@[simp] theorem finishSpan_link (j : Job) (d : Device) : (finishSpan j d).link = d.link :=
  by simp only [finishSpan] <;> simp

/-! `fixLine` -/

@[simp] theorem fixLine_control (j : Job) (i : Nat) (t : Option (List Nat)) (d : Device) : (fixLine j i t d).control = d.control :=
  by simp only [fixLine] <;> (repeat' split) <;> simp
@[simp] theorem fixLine_port (j : Job) (i : Nat) (t : Option (List Nat)) (d : Device) : (fixLine j i t d).port = d.port :=
  by simp only [fixLine] <;> (repeat' split) <;> simp
@[simp] theorem fixLine_arbiter (j : Job) (i : Nat) (t : Option (List Nat)) (d : Device) : (fixLine j i t d).arbiter = d.arbiter :=
  by simp only [fixLine] <;> (repeat' split) <;> simp
@[simp] theorem fixLine_ring (j : Job) (i : Nat) (t : Option (List Nat)) (d : Device) : (fixLine j i t d).ring = d.ring :=
  by simp only [fixLine] <;> (repeat' split) <;> simp
@[simp] theorem fixLine_checker (j : Job) (i : Nat) (t : Option (List Nat)) (d : Device) : (fixLine j i t d).checker = d.checker :=
  by simp only [fixLine] <;> (repeat' split) <;> simp
@[simp] theorem fixLine_map (j : Job) (i : Nat) (t : Option (List Nat)) (d : Device) : (fixLine j i t d).map = d.map :=
  by simp only [fixLine] <;> (repeat' split) <;> simp
@[simp] theorem fixLine_delivery (j : Job) (i : Nat) (t : Option (List Nat)) (d : Device) : (fixLine j i t d).delivery = d.delivery :=
  by simp only [fixLine] <;> (repeat' split) <;> simp
@[simp] theorem fixLine_reports (j : Job) (i : Nat) (t : Option (List Nat)) (d : Device) : (fixLine j i t d).reports = d.reports :=
  by simp only [fixLine] <;> (repeat' split) <;> simp
@[simp] theorem fixLine_link (j : Job) (i : Nat) (t : Option (List Nat)) (d : Device) : (fixLine j i t d).link = d.link :=
  by simp only [fixLine] <;> (repeat' split) <;> simp

/-! `startLine` -/

@[simp] theorem startLine_control (j : Job) (i : Nat) (d : Device) : (startLine j i d).control = d.control :=
  by simp only [startLine] <;> (repeat' split) <;> simp
@[simp] theorem startLine_port (j : Job) (i : Nat) (d : Device) : (startLine j i d).port = d.port :=
  by simp only [startLine] <;> (repeat' split) <;> simp
@[simp] theorem startLine_arbiter (j : Job) (i : Nat) (d : Device) : (startLine j i d).arbiter = d.arbiter :=
  by simp only [startLine] <;> (repeat' split) <;> simp
@[simp] theorem startLine_ring (j : Job) (i : Nat) (d : Device) : (startLine j i d).ring = d.ring :=
  by simp only [startLine] <;> (repeat' split) <;> simp
@[simp] theorem startLine_checker (j : Job) (i : Nat) (d : Device) : (startLine j i d).checker = d.checker :=
  by simp only [startLine] <;> (repeat' split) <;> simp
@[simp] theorem startLine_map (j : Job) (i : Nat) (d : Device) : (startLine j i d).map = d.map :=
  by simp only [startLine] <;> (repeat' split) <;> simp
@[simp] theorem startLine_delivery (j : Job) (i : Nat) (d : Device) : (startLine j i d).delivery = d.delivery :=
  by simp only [startLine] <;> (repeat' split) <;> simp
@[simp] theorem startLine_reports (j : Job) (i : Nat) (d : Device) : (startLine j i d).reports = d.reports :=
  by simp only [startLine] <;> (repeat' split) <;> simp
@[simp] theorem startLine_link (j : Job) (i : Nat) (d : Device) : (startLine j i d).link = d.link :=
  by simp only [startLine] <;> (repeat' split) <;> simp

/-! `lineWork` -/

@[simp] theorem lineWork_control (j : Job) (n : Nat) (d : Device) : (lineWork j n d).control = d.control := by
  induction n generalizing d with
  | zero => simp [lineWork]
  | succ n ih => simp only [lineWork]; (repeat' split) <;> simp [ih]
@[simp] theorem lineWork_port (j : Job) (n : Nat) (d : Device) : (lineWork j n d).port = d.port := by
  induction n generalizing d with
  | zero => simp [lineWork]
  | succ n ih => simp only [lineWork]; (repeat' split) <;> simp [ih]
@[simp] theorem lineWork_arbiter (j : Job) (n : Nat) (d : Device) : (lineWork j n d).arbiter = d.arbiter := by
  induction n generalizing d with
  | zero => simp [lineWork]
  | succ n ih => simp only [lineWork]; (repeat' split) <;> simp [ih]
@[simp] theorem lineWork_ring (j : Job) (n : Nat) (d : Device) : (lineWork j n d).ring = d.ring := by
  induction n generalizing d with
  | zero => simp [lineWork]
  | succ n ih => simp only [lineWork]; (repeat' split) <;> simp [ih]
@[simp] theorem lineWork_checker (j : Job) (n : Nat) (d : Device) : (lineWork j n d).checker = d.checker := by
  induction n generalizing d with
  | zero => simp [lineWork]
  | succ n ih => simp only [lineWork]; (repeat' split) <;> simp [ih]
@[simp] theorem lineWork_delivery (j : Job) (n : Nat) (d : Device) : (lineWork j n d).delivery = d.delivery := by
  induction n generalizing d with
  | zero => simp [lineWork]
  | succ n ih => simp only [lineWork]; (repeat' split) <;> simp [ih]
@[simp] theorem lineWork_reports (j : Job) (n : Nat) (d : Device) : (lineWork j n d).reports = d.reports := by
  induction n generalizing d with
  | zero => simp [lineWork]
  | succ n ih => simp only [lineWork]; (repeat' split) <;> simp [ih]
@[simp] theorem lineWork_link (j : Job) (n : Nat) (d : Device) : (lineWork j n d).link = d.link := by
  induction n generalizing d with
  | zero => simp [lineWork]
  | succ n ih => simp only [lineWork]; (repeat' split) <;> simp [ih]

/-! `beginLines` -/

@[simp] theorem beginLines_control (j : Job) (d : Device) : (beginLines j d).control = d.control :=
  by simp only [beginLines] <;> simp
@[simp] theorem beginLines_port (j : Job) (d : Device) : (beginLines j d).port = d.port :=
  by simp only [beginLines] <;> simp
@[simp] theorem beginLines_arbiter (j : Job) (d : Device) : (beginLines j d).arbiter = d.arbiter :=
  by simp only [beginLines] <;> simp
@[simp] theorem beginLines_ring (j : Job) (d : Device) : (beginLines j d).ring = d.ring :=
  by simp only [beginLines] <;> simp
@[simp] theorem beginLines_checker (j : Job) (d : Device) : (beginLines j d).checker = d.checker :=
  by simp only [beginLines] <;> simp
@[simp] theorem beginLines_delivery (j : Job) (d : Device) : (beginLines j d).delivery = d.delivery :=
  by simp only [beginLines] <;> simp
@[simp] theorem beginLines_reports (j : Job) (d : Device) : (beginLines j d).reports = d.reports :=
  by simp only [beginLines] <;> simp
@[simp] theorem beginLines_link (j : Job) (d : Device) : (beginLines j d).link = d.link :=
  by simp only [beginLines] <;> simp

/-! `computeLine` -/

@[simp] theorem computeLine_control (j : Job) (i : Nat) (t : Option (List Nat)) (d : Device) : (computeLine j i t d).control = d.control :=
  by simp only [computeLine] <;> (repeat' split) <;> simp
@[simp] theorem computeLine_port (j : Job) (i : Nat) (t : Option (List Nat)) (d : Device) : (computeLine j i t d).port = d.port :=
  by simp only [computeLine] <;> (repeat' split) <;> simp
@[simp] theorem computeLine_arbiter (j : Job) (i : Nat) (t : Option (List Nat)) (d : Device) : (computeLine j i t d).arbiter = d.arbiter :=
  by simp only [computeLine] <;> (repeat' split) <;> simp
@[simp] theorem computeLine_ring (j : Job) (i : Nat) (t : Option (List Nat)) (d : Device) : (computeLine j i t d).ring = d.ring :=
  by simp only [computeLine] <;> (repeat' split) <;> simp
@[simp] theorem computeLine_checker (j : Job) (i : Nat) (t : Option (List Nat)) (d : Device) : (computeLine j i t d).checker = d.checker :=
  by simp only [computeLine] <;> (repeat' split) <;> simp
@[simp] theorem computeLine_delivery (j : Job) (i : Nat) (t : Option (List Nat)) (d : Device) : (computeLine j i t d).delivery = d.delivery :=
  by simp only [computeLine] <;> (repeat' split) <;> simp
@[simp] theorem computeLine_reports (j : Job) (i : Nat) (t : Option (List Nat)) (d : Device) : (computeLine j i t d).reports = d.reports :=
  by simp only [computeLine] <;> (repeat' split) <;> simp
@[simp] theorem computeLine_link (j : Job) (i : Nat) (t : Option (List Nat)) (d : Device) : (computeLine j i t d).link = d.link :=
  by simp only [computeLine] <;> (repeat' split) <;> simp

/-! `endGather` -/

@[simp] theorem endGather_control (j : Job) (d : Device) : (endGather j d).control = d.control :=
  by simp only [endGather] <;> simp
@[simp] theorem endGather_port (j : Job) (d : Device) : (endGather j d).port = d.port :=
  by simp only [endGather] <;> simp
@[simp] theorem endGather_arbiter (j : Job) (d : Device) : (endGather j d).arbiter = d.arbiter :=
  by simp only [endGather] <;> simp
@[simp] theorem endGather_ring (j : Job) (d : Device) : (endGather j d).ring = d.ring :=
  by simp only [endGather] <;> simp
@[simp] theorem endGather_checker (j : Job) (d : Device) : (endGather j d).checker = d.checker :=
  by simp only [endGather] <;> simp
@[simp] theorem endGather_delivery (j : Job) (d : Device) : (endGather j d).delivery = d.delivery :=
  by simp only [endGather] <;> simp
@[simp] theorem endGather_reports (j : Job) (d : Device) : (endGather j d).reports = d.reports :=
  by simp only [endGather] <;> simp
@[simp] theorem endGather_link (j : Job) (d : Device) : (endGather j d).link = d.link :=
  by simp only [endGather] <;> simp

/-! `continueGather` -/

@[simp] theorem continueGather_control (j : Job) (d : Device) : (continueGather j d).control = d.control :=
  by simp only [continueGather] <;> (repeat' split) <;> simp
@[simp] theorem continueGather_port (j : Job) (d : Device) : (continueGather j d).port = d.port :=
  by simp only [continueGather] <;> (repeat' split) <;> simp
@[simp] theorem continueGather_arbiter (j : Job) (d : Device) : (continueGather j d).arbiter = d.arbiter :=
  by simp only [continueGather] <;> (repeat' split) <;> simp
@[simp] theorem continueGather_ring (j : Job) (d : Device) : (continueGather j d).ring = d.ring :=
  by simp only [continueGather] <;> (repeat' split) <;> simp
@[simp] theorem continueGather_checker (j : Job) (d : Device) : (continueGather j d).checker = d.checker :=
  by simp only [continueGather] <;> (repeat' split) <;> simp
@[simp] theorem continueGather_delivery (j : Job) (d : Device) : (continueGather j d).delivery = d.delivery :=
  by simp only [continueGather] <;> (repeat' split) <;> simp
@[simp] theorem continueGather_reports (j : Job) (d : Device) : (continueGather j d).reports = d.reports :=
  by simp only [continueGather] <;> (repeat' split) <;> simp
@[simp] theorem continueGather_link (j : Job) (d : Device) : (continueGather j d).link = d.link :=
  by simp only [continueGather] <;> (repeat' split) <;> simp

/-! `takeSpan` -/

@[simp] theorem takeSpan_control (s : Nat) (p : Span) (d : Device) : (takeSpan s p d).control = d.control :=
  by simp only [takeSpan] <;> simp
@[simp] theorem takeSpan_port (s : Nat) (p : Span) (d : Device) : (takeSpan s p d).port = d.port :=
  by simp only [takeSpan] <;> simp
@[simp] theorem takeSpan_arbiter (s : Nat) (p : Span) (d : Device) : (takeSpan s p d).arbiter = d.arbiter :=
  by simp only [takeSpan] <;> simp
@[simp] theorem takeSpan_ring (s : Nat) (p : Span) (d : Device) : (takeSpan s p d).ring = d.ring :=
  by simp only [takeSpan] <;> simp
@[simp] theorem takeSpan_checker (s : Nat) (p : Span) (d : Device) : (takeSpan s p d).checker = d.checker :=
  by simp only [takeSpan] <;> simp
@[simp] theorem takeSpan_delivery (s : Nat) (p : Span) (d : Device) : (takeSpan s p d).delivery = d.delivery :=
  by simp only [takeSpan] <;> simp
@[simp] theorem takeSpan_reports (s : Nat) (p : Span) (d : Device) : (takeSpan s p d).reports = d.reports :=
  by simp only [takeSpan] <;> simp
@[simp] theorem takeSpan_link (s : Nat) (p : Span) (d : Device) : (takeSpan s p d).link = d.link :=
  by simp only [takeSpan] <;> simp

/-! `examineOrder` -/

@[simp] theorem examineOrder_control (l : List SpanRef) (d : Device) : (examineOrder l d).control = d.control := by
  induction l generalizing d with
  | nil => simp [examineOrder]
  | cons h l ih => simp only [examineOrder]; (repeat' split) <;> simp [ih]
@[simp] theorem examineOrder_port (l : List SpanRef) (d : Device) : (examineOrder l d).port = d.port := by
  induction l generalizing d with
  | nil => simp [examineOrder]
  | cons h l ih => simp only [examineOrder]; (repeat' split) <;> simp [ih]
@[simp] theorem examineOrder_arbiter (l : List SpanRef) (d : Device) : (examineOrder l d).arbiter = d.arbiter := by
  induction l generalizing d with
  | nil => simp [examineOrder]
  | cons h l ih => simp only [examineOrder]; (repeat' split) <;> simp [ih]
@[simp] theorem examineOrder_ring (l : List SpanRef) (d : Device) : (examineOrder l d).ring = d.ring := by
  induction l generalizing d with
  | nil => simp [examineOrder]
  | cons h l ih => simp only [examineOrder]; (repeat' split) <;> simp [ih]
@[simp] theorem examineOrder_checker (l : List SpanRef) (d : Device) : (examineOrder l d).checker = d.checker := by
  induction l generalizing d with
  | nil => simp [examineOrder]
  | cons h l ih => simp only [examineOrder]; (repeat' split) <;> simp [ih]
@[simp] theorem examineOrder_delivery (l : List SpanRef) (d : Device) : (examineOrder l d).delivery = d.delivery := by
  induction l generalizing d with
  | nil => simp [examineOrder]
  | cons h l ih => simp only [examineOrder]; (repeat' split) <;> simp [ih]
@[simp] theorem examineOrder_reports (l : List SpanRef) (d : Device) : (examineOrder l d).reports = d.reports := by
  induction l generalizing d with
  | nil => simp [examineOrder]
  | cons h l ih => simp only [examineOrder]; (repeat' split) <;> simp [ih]
@[simp] theorem examineOrder_link (l : List SpanRef) (d : Device) : (examineOrder l d).link = d.link := by
  induction l generalizing d with
  | nil => simp [examineOrder]
  | cons h l ih => simp only [examineOrder]; (repeat' split) <;> simp [ih]

/-! `wakeEngine` -/

@[simp] theorem wakeEngine_control (d : Device) : (wakeEngine d).control = d.control :=
  by simp only [wakeEngine] <;> (repeat' split) <;> simp
@[simp] theorem wakeEngine_port (d : Device) : (wakeEngine d).port = d.port :=
  by simp only [wakeEngine] <;> (repeat' split) <;> simp
@[simp] theorem wakeEngine_arbiter (d : Device) : (wakeEngine d).arbiter = d.arbiter :=
  by simp only [wakeEngine] <;> (repeat' split) <;> simp
@[simp] theorem wakeEngine_ring (d : Device) : (wakeEngine d).ring = d.ring :=
  by simp only [wakeEngine] <;> (repeat' split) <;> simp
@[simp] theorem wakeEngine_checker (d : Device) : (wakeEngine d).checker = d.checker :=
  by simp only [wakeEngine] <;> (repeat' split) <;> simp
@[simp] theorem wakeEngine_delivery (d : Device) : (wakeEngine d).delivery = d.delivery :=
  by simp only [wakeEngine] <;> (repeat' split) <;> simp
@[simp] theorem wakeEngine_reports (d : Device) : (wakeEngine d).reports = d.reports :=
  by simp only [wakeEngine] <;> (repeat' split) <;> simp
@[simp] theorem wakeEngine_link (d : Device) : (wakeEngine d).link = d.link :=
  by simp only [wakeEngine] <;> (repeat' split) <;> simp

/-! `testTransfer` -/

@[simp] theorem testTransfer_control (j : Job) (d : Device) : (testTransfer j d).control = d.control :=
  by simp only [testTransfer] <;> (repeat' split) <;> simp
@[simp] theorem testTransfer_port (j : Job) (d : Device) : (testTransfer j d).port = d.port :=
  by simp only [testTransfer] <;> (repeat' split) <;> simp
@[simp] theorem testTransfer_arbiter (j : Job) (d : Device) : (testTransfer j d).arbiter = d.arbiter :=
  by simp only [testTransfer] <;> (repeat' split) <;> simp
@[simp] theorem testTransfer_ring (j : Job) (d : Device) : (testTransfer j d).ring = d.ring :=
  by simp only [testTransfer] <;> (repeat' split) <;> simp
@[simp] theorem testTransfer_checker (j : Job) (d : Device) : (testTransfer j d).checker = d.checker :=
  by simp only [testTransfer] <;> (repeat' split) <;> simp
@[simp] theorem testTransfer_delivery (j : Job) (d : Device) : (testTransfer j d).delivery = d.delivery :=
  by simp only [testTransfer] <;> (repeat' split) <;> simp
@[simp] theorem testTransfer_reports (j : Job) (d : Device) : (testTransfer j d).reports = d.reports :=
  by simp only [testTransfer] <;> (repeat' split) <;> simp
@[simp] theorem testTransfer_link (j : Job) (d : Device) : (testTransfer j d).link = d.link :=
  by simp only [testTransfer] <;> (repeat' split) <;> simp

/-! `tallyLine` -/

@[simp] theorem tallyLine_control (j : Job) (d : Device) : (tallyLine j d).control = d.control :=
  by simp only [tallyLine] <;> simp
@[simp] theorem tallyLine_port (j : Job) (d : Device) : (tallyLine j d).port = d.port :=
  by simp only [tallyLine] <;> simp
@[simp] theorem tallyLine_arbiter (j : Job) (d : Device) : (tallyLine j d).arbiter = d.arbiter :=
  by simp only [tallyLine] <;> simp
@[simp] theorem tallyLine_ring (j : Job) (d : Device) : (tallyLine j d).ring = d.ring :=
  by simp only [tallyLine] <;> simp
@[simp] theorem tallyLine_checker (j : Job) (d : Device) : (tallyLine j d).checker = d.checker :=
  by simp only [tallyLine] <;> simp
@[simp] theorem tallyLine_engine (j : Job) (d : Device) : (tallyLine j d).engine = d.engine :=
  by simp only [tallyLine] <;> simp
@[simp] theorem tallyLine_delivery (j : Job) (d : Device) : (tallyLine j d).delivery = d.delivery :=
  by simp only [tallyLine] <;> simp
@[simp] theorem tallyLine_link (j : Job) (d : Device) : (tallyLine j d).link = d.link :=
  by simp only [tallyLine] <;> simp

/-! `finishWriteBack` -/

@[simp] theorem finishWriteBack_control (j : Job) (d : Device) : (finishWriteBack j d).control = d.control :=
  by simp only [finishWriteBack] <;> (repeat' split) <;> simp
@[simp] theorem finishWriteBack_arbiter (j : Job) (d : Device) : (finishWriteBack j d).arbiter = d.arbiter :=
  by simp only [finishWriteBack] <;> (repeat' split) <;> simp
@[simp] theorem finishWriteBack_ring (j : Job) (d : Device) : (finishWriteBack j d).ring = d.ring :=
  by simp only [finishWriteBack] <;> (repeat' split) <;> simp
@[simp] theorem finishWriteBack_checker (j : Job) (d : Device) : (finishWriteBack j d).checker = d.checker :=
  by simp only [finishWriteBack] <;> (repeat' split) <;> simp

/-! `finishRun` -/

@[simp] theorem finishRun_control (j : Job) (d : Device) : (finishRun j d).control = d.control :=
  by simp only [finishRun] <;> (repeat' split) <;> simp
@[simp] theorem finishRun_arbiter (j : Job) (d : Device) : (finishRun j d).arbiter = d.arbiter :=
  by simp only [finishRun] <;> (repeat' split) <;> simp
@[simp] theorem finishRun_ring (j : Job) (d : Device) : (finishRun j d).ring = d.ring :=
  by simp only [finishRun] <;> (repeat' split) <;> simp
@[simp] theorem finishRun_checker (j : Job) (d : Device) : (finishRun j d).checker = d.checker :=
  by simp only [finishRun] <;> (repeat' split) <;> simp

/-! `engineCompletion` -/

@[simp] theorem engineCompletion_control (m : MemTransfer) (bs : List Beat) (d : Device) : (engineCompletion m bs d).control = d.control :=
  by simp only [engineCompletion] <;> (repeat' split) <;> simp
@[simp] theorem engineCompletion_arbiter (m : MemTransfer) (bs : List Beat) (d : Device) : (engineCompletion m bs d).arbiter = d.arbiter :=
  by simp only [engineCompletion] <;> (repeat' split) <;> simp
@[simp] theorem engineCompletion_ring (m : MemTransfer) (bs : List Beat) (d : Device) : (engineCompletion m bs d).ring = d.ring :=
  by simp only [engineCompletion] <;> (repeat' split) <;> simp
@[simp] theorem engineCompletion_checker (m : MemTransfer) (bs : List Beat) (d : Device) : (engineCompletion m bs d).checker = d.checker :=
  by simp only [engineCompletion] <;> (repeat' split) <;> simp

/-! `abortJob` -/

@[simp] theorem abortJob_control (d : Device) : (abortJob d).control = d.control :=
  rfl
@[simp] theorem abortJob_port (d : Device) : (abortJob d).port = d.port :=
  rfl
@[simp] theorem abortJob_ring (d : Device) : (abortJob d).ring = d.ring :=
  rfl
@[simp] theorem abortJob_checker (d : Device) : (abortJob d).checker = d.checker :=
  rfl
@[simp] theorem abortJob_map (d : Device) : (abortJob d).map = d.map :=
  rfl
@[simp] theorem abortJob_delivery (d : Device) : (abortJob d).delivery = d.delivery :=
  rfl
@[simp] theorem abortJob_reports (d : Device) : (abortJob d).reports = d.reports :=
  rfl
@[simp] theorem abortJob_link (d : Device) : (abortJob d).link = d.link :=
  rfl

/-! `abortJobOf` -/

@[simp] theorem abortJobOf_control (s : Nat) (d : Device) : (abortJobOf s d).control = d.control :=
  by simp only [abortJobOf] <;> (repeat' split) <;> simp
@[simp] theorem abortJobOf_port (s : Nat) (d : Device) : (abortJobOf s d).port = d.port :=
  by simp only [abortJobOf] <;> (repeat' split) <;> simp
@[simp] theorem abortJobOf_ring (s : Nat) (d : Device) : (abortJobOf s d).ring = d.ring :=
  by simp only [abortJobOf] <;> (repeat' split) <;> simp
@[simp] theorem abortJobOf_checker (s : Nat) (d : Device) : (abortJobOf s d).checker = d.checker :=
  by simp only [abortJobOf] <;> (repeat' split) <;> simp
@[simp] theorem abortJobOf_map (s : Nat) (d : Device) : (abortJobOf s d).map = d.map :=
  by simp only [abortJobOf] <;> (repeat' split) <;> simp
@[simp] theorem abortJobOf_delivery (s : Nat) (d : Device) : (abortJobOf s d).delivery = d.delivery :=
  by simp only [abortJobOf] <;> (repeat' split) <;> simp
@[simp] theorem abortJobOf_reports (s : Nat) (d : Device) : (abortJobOf s d).reports = d.reports :=
  by simp only [abortJobOf] <;> (repeat' split) <;> simp
@[simp] theorem abortJobOf_link (s : Nat) (d : Device) : (abortJobOf s d).link = d.link :=
  by simp only [abortJobOf] <;> (repeat' split) <;> simp

/-! `tearLine` -/

@[simp] theorem tearLine_control (s : Nat) (c : OpenLine) (d : Device) : (tearLine s c d).control = d.control :=
  by simp only [tearLine] <;> simp
@[simp] theorem tearLine_port (s : Nat) (c : OpenLine) (d : Device) : (tearLine s c d).port = d.port :=
  by simp only [tearLine] <;> simp
@[simp] theorem tearLine_arbiter (s : Nat) (c : OpenLine) (d : Device) : (tearLine s c d).arbiter = d.arbiter :=
  by simp only [tearLine] <;> simp
@[simp] theorem tearLine_engine (s : Nat) (c : OpenLine) (d : Device) : (tearLine s c d).engine = d.engine :=
  by simp only [tearLine] <;> simp
@[simp] theorem tearLine_delivery (s : Nat) (c : OpenLine) (d : Device) : (tearLine s c d).delivery = d.delivery :=
  by simp only [tearLine] <;> simp

/-! `endLine` -/

@[simp] theorem endLine_control (s : Nat) (b : Beat) (c : OpenLine) (d : Device) : (endLine s b c d).control = d.control :=
  by simp only [endLine] <;> (repeat' split) <;> simp
@[simp] theorem endLine_port (s : Nat) (b : Beat) (c : OpenLine) (d : Device) : (endLine s b c d).port = d.port :=
  by simp only [endLine] <;> (repeat' split) <;> simp
@[simp] theorem endLine_arbiter (s : Nat) (b : Beat) (c : OpenLine) (d : Device) : (endLine s b c d).arbiter = d.arbiter :=
  by simp only [endLine] <;> (repeat' split) <;> simp
@[simp] theorem endLine_engine (s : Nat) (b : Beat) (c : OpenLine) (d : Device) : (endLine s b c d).engine = d.engine :=
  by simp only [endLine] <;> (repeat' split) <;> simp
@[simp] theorem endLine_delivery (s : Nat) (b : Beat) (c : OpenLine) (d : Device) : (endLine s b c d).delivery = d.delivery :=
  by simp only [endLine] <;> (repeat' split) <;> simp

/-! `continueLine` -/

@[simp] theorem continueLine_control (s q : Nat) (b : Beat) (c : OpenLine) (d : Device) : (continueLine s q b c d).control = d.control :=
  by simp only [continueLine] <;> (repeat' split) <;> simp
@[simp] theorem continueLine_port (s q : Nat) (b : Beat) (c : OpenLine) (d : Device) : (continueLine s q b c d).port = d.port :=
  by simp only [continueLine] <;> (repeat' split) <;> simp
@[simp] theorem continueLine_arbiter (s q : Nat) (b : Beat) (c : OpenLine) (d : Device) : (continueLine s q b c d).arbiter = d.arbiter :=
  by simp only [continueLine] <;> (repeat' split) <;> simp
@[simp] theorem continueLine_engine (s q : Nat) (b : Beat) (c : OpenLine) (d : Device) : (continueLine s q b c d).engine = d.engine :=
  by simp only [continueLine] <;> (repeat' split) <;> simp
@[simp] theorem continueLine_delivery (s q : Nat) (b : Beat) (c : OpenLine) (d : Device) : (continueLine s q b c d).delivery = d.delivery :=
  by simp only [continueLine] <;> (repeat' split) <;> simp

/-! `startBeat` -/

@[simp] theorem startBeat_control (s i q : Nat) (b : Beat) (f : Bool) (d : Device) : (startBeat s i q b f d).control = d.control :=
  by simp only [startBeat] <;> (repeat' split) <;> simp
@[simp] theorem startBeat_port (s i q : Nat) (b : Beat) (f : Bool) (d : Device) : (startBeat s i q b f d).port = d.port :=
  by simp only [startBeat] <;> (repeat' split) <;> simp
@[simp] theorem startBeat_arbiter (s i q : Nat) (b : Beat) (f : Bool) (d : Device) : (startBeat s i q b f d).arbiter = d.arbiter :=
  by simp only [startBeat] <;> (repeat' split) <;> simp
@[simp] theorem startBeat_engine (s i q : Nat) (b : Beat) (f : Bool) (d : Device) : (startBeat s i q b f d).engine = d.engine :=
  by simp only [startBeat] <;> (repeat' split) <;> simp
@[simp] theorem startBeat_delivery (s i q : Nat) (b : Beat) (f : Bool) (d : Device) : (startBeat s i q b f d).delivery = d.delivery :=
  by simp only [startBeat] <;> (repeat' split) <;> simp

/-! `checkBeat` -/

@[simp] theorem checkBeat_control (s i q : Nat) (b : Beat) (e : Enables) (d : Device) : (checkBeat s i q b e d).control = d.control :=
  by simp only [checkBeat] <;> (repeat' split) <;> simp
@[simp] theorem checkBeat_port (s i q : Nat) (b : Beat) (e : Enables) (d : Device) : (checkBeat s i q b e d).port = d.port :=
  by simp only [checkBeat] <;> (repeat' split) <;> simp
@[simp] theorem checkBeat_arbiter (s i q : Nat) (b : Beat) (e : Enables) (d : Device) : (checkBeat s i q b e d).arbiter = d.arbiter :=
  by simp only [checkBeat] <;> (repeat' split) <;> simp
@[simp] theorem checkBeat_engine (s i q : Nat) (b : Beat) (e : Enables) (d : Device) : (checkBeat s i q b e d).engine = d.engine :=
  by simp only [checkBeat] <;> (repeat' split) <;> simp
@[simp] theorem checkBeat_delivery (s i q : Nat) (b : Beat) (e : Enables) (d : Device) : (checkBeat s i q b e d).delivery = d.delivery :=
  by simp only [checkBeat] <;> (repeat' split) <;> simp

/-! `missLine` -/

@[simp] theorem missLine_control (s i : Nat) (d : Device) : (missLine s i d).control = d.control :=
  by simp only [missLine] <;> simp
@[simp] theorem missLine_port (s i : Nat) (d : Device) : (missLine s i d).port = d.port :=
  by simp only [missLine] <;> simp
@[simp] theorem missLine_arbiter (s i : Nat) (d : Device) : (missLine s i d).arbiter = d.arbiter :=
  by simp only [missLine] <;> simp
@[simp] theorem missLine_engine (s i : Nat) (d : Device) : (missLine s i d).engine = d.engine :=
  by simp only [missLine] <;> simp
@[simp] theorem missLine_delivery (s i : Nat) (d : Device) : (missLine s i d).delivery = d.delivery :=
  by simp only [missLine] <;> simp

/-! `missLines` -/

@[simp] theorem missLines_control (s : Nat) (l : List Nat) (d : Device) : (l.foldl (fun d i => missLine s i d) d).control = d.control := by
  induction l generalizing d with
  | nil => rfl
  | cons i l ih => simp only [List.foldl_cons]; rw [ih]; simp
@[simp] theorem missLines_port (s : Nat) (l : List Nat) (d : Device) : (l.foldl (fun d i => missLine s i d) d).port = d.port := by
  induction l generalizing d with
  | nil => rfl
  | cons i l ih => simp only [List.foldl_cons]; rw [ih]; simp
@[simp] theorem missLines_arbiter (s : Nat) (l : List Nat) (d : Device) : (l.foldl (fun d i => missLine s i d) d).arbiter = d.arbiter := by
  induction l generalizing d with
  | nil => rfl
  | cons i l ih => simp only [List.foldl_cons]; rw [ih]; simp
@[simp] theorem missLines_engine (s : Nat) (l : List Nat) (d : Device) : (l.foldl (fun d i => missLine s i d) d).engine = d.engine := by
  induction l generalizing d with
  | nil => rfl
  | cons i l ih => simp only [List.foldl_cons]; rw [ih]; simp
@[simp] theorem missLines_delivery (s : Nat) (l : List Nat) (d : Device) : (l.foldl (fun d i => missLine s i d) d).delivery = d.delivery := by
  induction l generalizing d with
  | nil => rfl
  | cons i l ih => simp only [List.foldl_cons]; rw [ih]; simp

/-! `closeTable` -/

@[simp] theorem closeTable_control (s : Nat) (d : Device) : (closeTable s d).control = d.control :=
  by simp only [closeTable] <;> (repeat' split) <;> simp
@[simp] theorem closeTable_port (s : Nat) (d : Device) : (closeTable s d).port = d.port :=
  by simp only [closeTable] <;> (repeat' split) <;> simp
@[simp] theorem closeTable_arbiter (s : Nat) (d : Device) : (closeTable s d).arbiter = d.arbiter :=
  by simp only [closeTable] <;> (repeat' split) <;> simp
@[simp] theorem closeTable_engine (s : Nat) (d : Device) : (closeTable s d).engine = d.engine :=
  by simp only [closeTable] <;> (repeat' split) <;> simp
@[simp] theorem closeTable_delivery (s : Nat) (d : Device) : (closeTable s d).delivery = d.delivery :=
  by simp only [closeTable] <;> (repeat' split) <;> simp

/-! `queueSpans` -/

@[simp] theorem queueSpans_control (s : Nat) (d : Device) : (queueSpans s d).control = d.control :=
  rfl
@[simp] theorem queueSpans_port (s : Nat) (d : Device) : (queueSpans s d).port = d.port :=
  rfl
@[simp] theorem queueSpans_arbiter (s : Nat) (d : Device) : (queueSpans s d).arbiter = d.arbiter :=
  rfl
@[simp] theorem queueSpans_ring (s : Nat) (d : Device) : (queueSpans s d).ring = d.ring :=
  rfl
@[simp] theorem queueSpans_checker (s : Nat) (d : Device) : (queueSpans s d).checker = d.checker :=
  rfl
@[simp] theorem queueSpans_delivery (s : Nat) (d : Device) : (queueSpans s d).delivery = d.delivery :=
  rfl
@[simp] theorem queueSpans_reports (s : Nat) (d : Device) : (queueSpans s d).reports = d.reports :=
  rfl
@[simp] theorem queueSpans_link (s : Nat) (d : Device) : (queueSpans s d).link = d.link :=
  rfl

/-! `closeFill` -/

@[simp] theorem closeFill_control (s : Nat) (b : Bool) (d : Device) : (closeFill s b d).control = d.control :=
  by simp only [closeFill] <;> (repeat' split) <;> simp
@[simp] theorem closeFill_port (s : Nat) (b : Bool) (d : Device) : (closeFill s b d).port = d.port :=
  by simp only [closeFill] <;> (repeat' split) <;> simp
@[simp] theorem closeFill_arbiter (s : Nat) (b : Bool) (d : Device) : (closeFill s b d).arbiter = d.arbiter :=
  by simp only [closeFill] <;> (repeat' split) <;> simp
@[simp] theorem closeFill_delivery (s : Nat) (b : Bool) (d : Device) : (closeFill s b d).delivery = d.delivery :=
  by simp only [closeFill] <;> (repeat' split) <;> simp

/-! `closeOpenFill` -/

@[simp] theorem closeOpenFill_control (b : Bool) (d : Device) : (closeOpenFill b d).control = d.control :=
  by simp only [closeOpenFill] <;> (repeat' split) <;> simp
@[simp] theorem closeOpenFill_port (b : Bool) (d : Device) : (closeOpenFill b d).port = d.port :=
  by simp only [closeOpenFill] <;> (repeat' split) <;> simp
@[simp] theorem closeOpenFill_arbiter (b : Bool) (d : Device) : (closeOpenFill b d).arbiter = d.arbiter :=
  by simp only [closeOpenFill] <;> (repeat' split) <;> simp
@[simp] theorem closeOpenFill_delivery (b : Bool) (d : Device) : (closeOpenFill b d).delivery = d.delivery :=
  by simp only [closeOpenFill] <;> (repeat' split) <;> simp

/-! `freeSpans` -/

@[simp] theorem freeSpans_control (s : Nat) (d : Device) : (freeSpans s d).control = d.control :=
  by simp only [freeSpans] <;> simp
@[simp] theorem freeSpans_port (s : Nat) (d : Device) : (freeSpans s d).port = d.port :=
  by simp only [freeSpans] <;> simp
@[simp] theorem freeSpans_ring (s : Nat) (d : Device) : (freeSpans s d).ring = d.ring :=
  by simp only [freeSpans] <;> simp
@[simp] theorem freeSpans_checker (s : Nat) (d : Device) : (freeSpans s d).checker = d.checker :=
  by simp only [freeSpans] <;> simp
@[simp] theorem freeSpans_delivery (s : Nat) (d : Device) : (freeSpans s d).delivery = d.delivery :=
  by simp only [freeSpans] <;> simp
@[simp] theorem freeSpans_reports (s : Nat) (d : Device) : (freeSpans s d).reports = d.reports :=
  by simp only [freeSpans] <;> simp
@[simp] theorem freeSpans_link (s : Nat) (d : Device) : (freeSpans s d).link = d.link :=
  by simp only [freeSpans] <;> simp

/-! `disposeFrame` -/

@[simp] theorem disposeFrame_control (s : Nat) (d : Device) : (disposeFrame s d).control = d.control :=
  by simp only [disposeFrame] <;> (repeat' split) <;> simp
@[simp] theorem disposeFrame_port (s : Nat) (d : Device) : (disposeFrame s d).port = d.port :=
  by simp only [disposeFrame] <;> (repeat' split) <;> simp
@[simp] theorem disposeFrame_arbiter (s : Nat) (d : Device) : (disposeFrame s d).arbiter = d.arbiter :=
  by simp only [disposeFrame] <;> (repeat' split) <;> simp
@[simp] theorem disposeFrame_checker (s : Nat) (d : Device) : (disposeFrame s d).checker = d.checker :=
  by simp only [disposeFrame] <;> (repeat' split) <;> simp
@[simp] theorem disposeFrame_map (s : Nat) (d : Device) : (disposeFrame s d).map = d.map :=
  by simp only [disposeFrame] <;> (repeat' split) <;> simp
@[simp] theorem disposeFrame_engine (s : Nat) (d : Device) : (disposeFrame s d).engine = d.engine :=
  by simp only [disposeFrame] <;> (repeat' split) <;> simp

/-! `beginSlot` -/

@[simp] theorem beginSlot_control (s : Nat) (d : Device) : (beginSlot s d).control = d.control :=
  by simp only [beginSlot] <;> simp
@[simp] theorem beginSlot_port (s : Nat) (d : Device) : (beginSlot s d).port = d.port :=
  by simp only [beginSlot] <;> simp

/-! `loseLock` -/

@[simp] theorem loseLock_control (d : Device) : (loseLock d).control = d.control :=
  by simp only [loseLock] <;> simp
@[simp] theorem loseLock_port (d : Device) : (loseLock d).port = d.port :=
  by simp only [loseLock] <;> simp
@[simp] theorem loseLock_arbiter (d : Device) : (loseLock d).arbiter = d.arbiter :=
  by simp only [loseLock] <;> simp
@[simp] theorem loseLock_checker (d : Device) : (loseLock d).checker = d.checker :=
  by simp only [loseLock] <;> simp
@[simp] theorem loseLock_map (d : Device) : (loseLock d).map = d.map :=
  by simp only [loseLock] <;> simp
@[simp] theorem loseLock_engine (d : Device) : (loseLock d).engine = d.engine :=
  by simp only [loseLock] <;> simp
@[simp] theorem loseLock_delivery (d : Device) : (loseLock d).delivery = d.delivery :=
  by simp only [loseLock] <;> simp

/-! `startRun` -/

@[simp] theorem startRun_port (s : Nat) (d : Device) : (startRun s d).port = d.port :=
  by simp only [startRun] <;> simp
@[simp] theorem startRun_delivery (s : Nat) (d : Device) : (startRun s d).delivery = d.delivery :=
  by simp only [startRun] <;> simp
@[simp] theorem startRun_reports (s : Nat) (d : Device) : (startRun s d).reports = d.reports :=
  by simp only [startRun] <;> simp
@[simp] theorem startRun_link (s : Nat) (d : Device) : (startRun s d).link = d.link :=
  by simp only [startRun] <;> simp

/-! `advanceTo` -/

@[simp] theorem advanceTo_control (s : Nat) (d : Device) : (advanceTo s d).control = d.control :=
  by simp only [advanceTo] <;> simp
@[simp] theorem advanceTo_port (s : Nat) (d : Device) : (advanceTo s d).port = d.port :=
  by simp only [advanceTo] <;> simp

/-! `jumpTo` -/

@[simp] theorem jumpTo_control (s : Nat) (d : Device) : (jumpTo s d).control = d.control :=
  by simp only [jumpTo] <;> (repeat' split) <;> simp
@[simp] theorem jumpTo_port (s : Nat) (d : Device) : (jumpTo s d).port = d.port :=
  by simp only [jumpTo] <;> (repeat' split) <;> simp

/-! `relockAt` -/

@[simp] theorem relockAt_control (s : Nat) (d : Device) : (relockAt s d).control = d.control :=
  by simp only [relockAt] <;> simp
@[simp] theorem relockAt_port (s : Nat) (d : Device) : (relockAt s d).port = d.port :=
  by simp only [relockAt] <;> simp

/-! `markStale` -/

@[simp] theorem markStale_control (s : Nat) (d : Device) : (markStale s d).control = d.control :=
  by simp only [markStale] <;> (repeat' split) <;> simp
@[simp] theorem markStale_port (s : Nat) (d : Device) : (markStale s d).port = d.port :=
  by simp only [markStale] <;> (repeat' split) <;> simp
@[simp] theorem markStale_checker (s : Nat) (d : Device) : (markStale s d).checker = d.checker :=
  by simp only [markStale] <;> (repeat' split) <;> simp
@[simp] theorem markStale_delivery (s : Nat) (d : Device) : (markStale s d).delivery = d.delivery :=
  by simp only [markStale] <;> (repeat' split) <;> simp

/-! `lockLoss` -/

@[simp] theorem lockLoss_control (s : Nat) (d : Device) : (lockLoss s d).control = d.control :=
  by simp only [lockLoss] <;> simp
@[simp] theorem lockLoss_port (s : Nat) (d : Device) : (lockLoss s d).port = d.port :=
  by simp only [lockLoss] <;> simp
@[simp] theorem lockLoss_delivery (s : Nat) (d : Device) : (lockLoss s d).delivery = d.delivery :=
  by simp only [lockLoss] <;> simp

/-! `fillBeat` -/

@[simp] theorem fillBeat_control (s i q : Nat) (b : Beat) (e : Enables) (d : Device) : (fillBeat s i q b e d).control = d.control :=
  by simp only [fillBeat] <;> (repeat' split) <;> simp
@[simp] theorem fillBeat_port (s i q : Nat) (b : Beat) (e : Enables) (d : Device) : (fillBeat s i q b e d).port = d.port :=
  by simp only [fillBeat] <;> (repeat' split) <;> simp
@[simp] theorem fillBeat_arbiter (s i q : Nat) (b : Beat) (e : Enables) (d : Device) : (fillBeat s i q b e d).arbiter = d.arbiter :=
  by simp only [fillBeat] <;> (repeat' split) <;> simp
@[simp] theorem fillBeat_delivery (s i q : Nat) (b : Beat) (e : Enables) (d : Device) : (fillBeat s i q b e d).delivery = d.delivery :=
  by simp only [fillBeat] <;> (repeat' split) <;> simp

/-! `beginWrite` -/

@[simp] theorem beginWrite_control (s : Nat) (d : Device) : (beginWrite s d).control = d.control :=
  by simp only [beginWrite] <;> (repeat' split) <;> simp
@[simp] theorem beginWrite_port (s : Nat) (d : Device) : (beginWrite s d).port = d.port :=
  by simp only [beginWrite] <;> (repeat' split) <;> simp

/-! `runningBeat` -/

@[simp] theorem runningBeat_control (f : Bool) (s i q : Nat) (b : Beat) (e : Enables) (d : Device) : (runningBeat f s i q b e d).control = d.control :=
  by simp only [runningBeat] <;> (repeat' split) <;> simp
@[simp] theorem runningBeat_port (f : Bool) (s i q : Nat) (b : Beat) (e : Enables) (d : Device) : (runningBeat f s i q b e d).port = d.port :=
  by simp only [runningBeat] <;> (repeat' split) <;> simp

/-! `takeWriteBeat` -/

@[simp] theorem takeWriteBeat_port (f o : Bool) (a : Nat) (b : Beat) (e : Enables) (d : Device) : (takeWriteBeat f o a b e d).port = d.port :=
  by simp only [takeWriteBeat] <;> (repeat' split) <;> simp

/-! `applyPending` -/

@[simp] theorem applyPending_port (d : Device) : (applyPending d).port = d.port :=
  by simp only [applyPending] <;> (repeat' split) <;> simp
@[simp] theorem applyPending_arbiter (d : Device) : (applyPending d).arbiter = d.arbiter :=
  by simp only [applyPending] <;> (repeat' split) <;> simp
@[simp] theorem applyPending_ring (d : Device) : (applyPending d).ring = d.ring :=
  by simp only [applyPending] <;> (repeat' split) <;> simp
@[simp] theorem applyPending_checker (d : Device) : (applyPending d).checker = d.checker :=
  by simp only [applyPending] <;> (repeat' split) <;> simp
@[simp] theorem applyPending_map (d : Device) : (applyPending d).map = d.map :=
  by simp only [applyPending] <;> (repeat' split) <;> simp
@[simp] theorem applyPending_engine (d : Device) : (applyPending d).engine = d.engine :=
  by simp only [applyPending] <;> (repeat' split) <;> simp
@[simp] theorem applyPending_delivery (d : Device) : (applyPending d).delivery = d.delivery :=
  by simp only [applyPending] <;> (repeat' split) <;> simp
@[simp] theorem applyPending_reports (d : Device) : (applyPending d).reports = d.reports :=
  by simp only [applyPending] <;> (repeat' split) <;> simp
@[simp] theorem applyPending_link (d : Device) : (applyPending d).link = d.link :=
  by simp only [applyPending] <;> (repeat' split) <;> simp

/-! `endDrain` -/

@[simp] theorem endDrain_control (d : Device) : (endDrain d).control = d.control :=
  by simp only [endDrain] <;> (repeat' split) <;> simp
@[simp] theorem endDrain_port (d : Device) : (endDrain d).port = d.port :=
  by simp only [endDrain] <;> (repeat' split) <;> simp
@[simp] theorem endDrain_arbiter (d : Device) : (endDrain d).arbiter = d.arbiter :=
  by simp only [endDrain] <;> (repeat' split) <;> simp
@[simp] theorem endDrain_checker (d : Device) : (endDrain d).checker = d.checker :=
  by simp only [endDrain] <;> (repeat' split) <;> simp
@[simp] theorem endDrain_map (d : Device) : (endDrain d).map = d.map :=
  by simp only [endDrain] <;> (repeat' split) <;> simp
@[simp] theorem endDrain_engine (d : Device) : (endDrain d).engine = d.engine :=
  by simp only [endDrain] <;> (repeat' split) <;> simp

/-! `startDrain` -/

@[simp] theorem startDrain_port (s : Nat) (d : Device) : (startDrain s d).port = d.port :=
  by simp only [startDrain] <;> simp
@[simp] theorem startDrain_arbiter (s : Nat) (d : Device) : (startDrain s d).arbiter = d.arbiter :=
  by simp only [startDrain] <;> simp
@[simp] theorem startDrain_checker (s : Nat) (d : Device) : (startDrain s d).checker = d.checker :=
  by simp only [startDrain] <;> simp
@[simp] theorem startDrain_map (s : Nat) (d : Device) : (startDrain s d).map = d.map :=
  by simp only [startDrain] <;> simp
@[simp] theorem startDrain_engine (s : Nat) (d : Device) : (startDrain s d).engine = d.engine :=
  by simp only [startDrain] <;> simp

/-! `overtakeDrain` -/

@[simp] theorem overtakeDrain_port (s : Nat) (d : Device) : (overtakeDrain s d).port = d.port :=
  by simp only [overtakeDrain] <;> simp
@[simp] theorem overtakeDrain_arbiter (s : Nat) (d : Device) : (overtakeDrain s d).arbiter = d.arbiter :=
  by simp only [overtakeDrain] <;> simp
@[simp] theorem overtakeDrain_checker (s : Nat) (d : Device) : (overtakeDrain s d).checker = d.checker :=
  by simp only [overtakeDrain] <;> simp
@[simp] theorem overtakeDrain_map (s : Nat) (d : Device) : (overtakeDrain s d).map = d.map :=
  by simp only [overtakeDrain] <;> simp
@[simp] theorem overtakeDrain_engine (s : Nat) (d : Device) : (overtakeDrain s d).engine = d.engine :=
  by simp only [overtakeDrain] <;> simp

/-! `baseRead` -/

@[simp] theorem baseRead_port (s : Nat) (d : Device) : (baseRead s d).port = d.port :=
  by simp only [baseRead] <;> (repeat' split) <;> simp
@[simp] theorem baseRead_arbiter (s : Nat) (d : Device) : (baseRead s d).arbiter = d.arbiter :=
  by simp only [baseRead] <;> (repeat' split) <;> simp
@[simp] theorem baseRead_checker (s : Nat) (d : Device) : (baseRead s d).checker = d.checker :=
  by simp only [baseRead] <;> (repeat' split) <;> simp
@[simp] theorem baseRead_map (s : Nat) (d : Device) : (baseRead s d).map = d.map :=
  by simp only [baseRead] <;> (repeat' split) <;> simp
@[simp] theorem baseRead_engine (s : Nat) (d : Device) : (baseRead s d).engine = d.engine :=
  by simp only [baseRead] <;> (repeat' split) <;> simp

/-! `askBeat` -/

@[simp] theorem askBeat_port (a : Nat) (d : Device) : ((askBeat a d).device).port = d.port :=
  by simp only [askBeat] <;> (repeat' split) <;> simp
@[simp] theorem askBeat_arbiter (a : Nat) (d : Device) : ((askBeat a d).device).arbiter = d.arbiter :=
  by simp only [askBeat] <;> (repeat' split) <;> simp
@[simp] theorem askBeat_checker (a : Nat) (d : Device) : ((askBeat a d).device).checker = d.checker :=
  by simp only [askBeat] <;> (repeat' split) <;> simp
@[simp] theorem askBeat_map (a : Nat) (d : Device) : ((askBeat a d).device).map = d.map :=
  by simp only [askBeat] <;> (repeat' split) <;> simp
@[simp] theorem askBeat_engine (a : Nat) (d : Device) : ((askBeat a d).device).engine = d.engine :=
  by simp only [askBeat] <;> (repeat' split) <;> simp

/-! `takeIn` -/

@[simp] theorem takeIn_port (k : Asked) : (takeIn k).port = k.device.port :=
  by simp only [takeIn] <;> (repeat' split) <;> simp
@[simp] theorem takeIn_arbiter (k : Asked) : (takeIn k).arbiter = k.device.arbiter :=
  by simp only [takeIn] <;> (repeat' split) <;> simp
@[simp] theorem takeIn_checker (k : Asked) : (takeIn k).checker = k.device.checker :=
  by simp only [takeIn] <;> (repeat' split) <;> simp
@[simp] theorem takeIn_map (k : Asked) : (takeIn k).map = k.device.map :=
  by simp only [takeIn] <;> (repeat' split) <;> simp
@[simp] theorem takeIn_engine (k : Asked) : (takeIn k).engine = k.device.engine :=
  by simp only [takeIn] <;> (repeat' split) <;> simp

/-! `formPart` -/

@[simp] theorem formPart_port (n a : Nat) (f : Option Nat) (d : Device) : ((formPart n a f d).device).port = d.port := by
  induction n generalizing a f d with
  | zero => simp [formPart]
  | succ n ih => simp only [formPart]; (repeat' split) <;> simp [ih]
@[simp] theorem formPart_arbiter (n a : Nat) (f : Option Nat) (d : Device) : ((formPart n a f d).device).arbiter = d.arbiter := by
  induction n generalizing a f d with
  | zero => simp [formPart]
  | succ n ih => simp only [formPart]; (repeat' split) <;> simp [ih]
@[simp] theorem formPart_checker (n a : Nat) (f : Option Nat) (d : Device) : ((formPart n a f d).device).checker = d.checker := by
  induction n generalizing a f d with
  | zero => simp [formPart]
  | succ n ih => simp only [formPart]; (repeat' split) <;> simp [ih]
@[simp] theorem formPart_map (n a : Nat) (f : Option Nat) (d : Device) : ((formPart n a f d).device).map = d.map := by
  induction n generalizing a f d with
  | zero => simp [formPart]
  | succ n ih => simp only [formPart]; (repeat' split) <;> simp [ih]
@[simp] theorem formPart_engine (n a : Nat) (f : Option Nat) (d : Device) : ((formPart n a f d).device).engine = d.engine := by
  induction n generalizing a f d with
  | zero => simp [formPart]
  | succ n ih => simp only [formPart]; (repeat' split) <;> simp [ih]

/-! `forwardWhole` -/

@[simp] theorem forwardWhole_control (t : BurnerTransfer) (d : Device) : (forwardWhole t d).control = d.control :=
  rfl
@[simp] theorem forwardWhole_ring (t : BurnerTransfer) (d : Device) : (forwardWhole t d).ring = d.ring :=
  rfl
@[simp] theorem forwardWhole_checker (t : BurnerTransfer) (d : Device) : (forwardWhole t d).checker = d.checker :=
  rfl
@[simp] theorem forwardWhole_map (t : BurnerTransfer) (d : Device) : (forwardWhole t d).map = d.map :=
  rfl
@[simp] theorem forwardWhole_engine (t : BurnerTransfer) (d : Device) : (forwardWhole t d).engine = d.engine :=
  rfl
@[simp] theorem forwardWhole_delivery (t : BurnerTransfer) (d : Device) : (forwardWhole t d).delivery = d.delivery :=
  rfl
@[simp] theorem forwardWhole_reports (t : BurnerTransfer) (d : Device) : (forwardWhole t d).reports = d.reports :=
  rfl
@[simp] theorem forwardWhole_link (t : BurnerTransfer) (d : Device) : (forwardWhole t d).link = d.link :=
  rfl

/-! `forwardPart` -/

@[simp] theorem forwardPart_checker (t : BurnerTransfer) (d : Device) : (forwardPart t d).checker = d.checker :=
  by simp only [forwardPart] <;> (repeat' split) <;> simp
@[simp] theorem forwardPart_map (t : BurnerTransfer) (d : Device) : (forwardPart t d).map = d.map :=
  by simp only [forwardPart] <;> (repeat' split) <;> simp
@[simp] theorem forwardPart_engine (t : BurnerTransfer) (d : Device) : (forwardPart t d).engine = d.engine :=
  by simp only [forwardPart] <;> (repeat' split) <;> simp

/-! `grantBurner` -/

@[simp] theorem grantBurner_checker (d : Device) : (grantBurner d).checker = d.checker :=
  by simp only [grantBurner] <;> (repeat' split) <;> simp
@[simp] theorem grantBurner_map (d : Device) : (grantBurner d).map = d.map :=
  by simp only [grantBurner] <;> (repeat' split) <;> simp
@[simp] theorem grantBurner_engine (d : Device) : (grantBurner d).engine = d.engine :=
  by simp only [grantBurner] <;> (repeat' split) <;> simp

/-! `retestEngine` -/

@[simp] theorem retestEngine_control (d : Device) : (retestEngine d).control = d.control :=
  by simp only [retestEngine] <;> (repeat' split) <;> simp
@[simp] theorem retestEngine_port (d : Device) : (retestEngine d).port = d.port :=
  by simp only [retestEngine] <;> (repeat' split) <;> simp
@[simp] theorem retestEngine_arbiter (d : Device) : (retestEngine d).arbiter = d.arbiter :=
  by simp only [retestEngine] <;> (repeat' split) <;> simp
@[simp] theorem retestEngine_ring (d : Device) : (retestEngine d).ring = d.ring :=
  by simp only [retestEngine] <;> (repeat' split) <;> simp
@[simp] theorem retestEngine_checker (d : Device) : (retestEngine d).checker = d.checker :=
  by simp only [retestEngine] <;> (repeat' split) <;> simp
@[simp] theorem retestEngine_delivery (d : Device) : (retestEngine d).delivery = d.delivery :=
  by simp only [retestEngine] <;> (repeat' split) <;> simp
@[simp] theorem retestEngine_reports (d : Device) : (retestEngine d).reports = d.reports :=
  by simp only [retestEngine] <;> (repeat' split) <;> simp
@[simp] theorem retestEngine_link (d : Device) : (retestEngine d).link = d.link :=
  by simp only [retestEngine] <;> (repeat' split) <;> simp

/-! `issueEngine` -/

@[simp] theorem issueEngine_control (d : Device) : (issueEngine d).control = d.control :=
  by simp only [issueEngine] <;> (repeat' split) <;> simp
@[simp] theorem issueEngine_port (d : Device) : (issueEngine d).port = d.port :=
  by simp only [issueEngine] <;> (repeat' split) <;> simp
@[simp] theorem issueEngine_ring (d : Device) : (issueEngine d).ring = d.ring :=
  by simp only [issueEngine] <;> (repeat' split) <;> simp
@[simp] theorem issueEngine_checker (d : Device) : (issueEngine d).checker = d.checker :=
  by simp only [issueEngine] <;> (repeat' split) <;> simp
@[simp] theorem issueEngine_map (d : Device) : (issueEngine d).map = d.map :=
  by simp only [issueEngine] <;> (repeat' split) <;> simp
@[simp] theorem issueEngine_delivery (d : Device) : (issueEngine d).delivery = d.delivery :=
  by simp only [issueEngine] <;> (repeat' split) <;> simp
@[simp] theorem issueEngine_reports (d : Device) : (issueEngine d).reports = d.reports :=
  by simp only [issueEngine] <;> (repeat' split) <;> simp
@[simp] theorem issueEngine_link (d : Device) : (issueEngine d).link = d.link :=
  by simp only [issueEngine] <;> (repeat' split) <;> simp

/-! `grantEngine` -/

@[simp] theorem grantEngine_control (d : Device) : (grantEngine d).control = d.control :=
  by simp only [grantEngine] <;> (repeat' split) <;> simp
@[simp] theorem grantEngine_port (d : Device) : (grantEngine d).port = d.port :=
  by simp only [grantEngine] <;> (repeat' split) <;> simp
@[simp] theorem grantEngine_ring (d : Device) : (grantEngine d).ring = d.ring :=
  by simp only [grantEngine] <;> (repeat' split) <;> simp
@[simp] theorem grantEngine_checker (d : Device) : (grantEngine d).checker = d.checker :=
  by simp only [grantEngine] <;> (repeat' split) <;> simp
@[simp] theorem grantEngine_delivery (d : Device) : (grantEngine d).delivery = d.delivery :=
  by simp only [grantEngine] <;> (repeat' split) <;> simp
@[simp] theorem grantEngine_reports (d : Device) : (grantEngine d).reports = d.reports :=
  by simp only [grantEngine] <;> (repeat' split) <;> simp
@[simp] theorem grantEngine_link (d : Device) : (grantEngine d).link = d.link :=
  by simp only [grantEngine] <;> (repeat' split) <;> simp

/-! `grantEngineIfFree` -/

@[simp] theorem grantEngineIfFree_control (d : Device) : (grantEngineIfFree d).control = d.control :=
  by simp only [grantEngineIfFree] <;> (repeat' split) <;> simp
@[simp] theorem grantEngineIfFree_port (d : Device) : (grantEngineIfFree d).port = d.port :=
  by simp only [grantEngineIfFree] <;> (repeat' split) <;> simp
@[simp] theorem grantEngineIfFree_ring (d : Device) : (grantEngineIfFree d).ring = d.ring :=
  by simp only [grantEngineIfFree] <;> (repeat' split) <;> simp
@[simp] theorem grantEngineIfFree_checker (d : Device) : (grantEngineIfFree d).checker = d.checker :=
  by simp only [grantEngineIfFree] <;> (repeat' split) <;> simp
@[simp] theorem grantEngineIfFree_delivery (d : Device) : (grantEngineIfFree d).delivery = d.delivery :=
  by simp only [grantEngineIfFree] <;> (repeat' split) <;> simp
@[simp] theorem grantEngineIfFree_reports (d : Device) : (grantEngineIfFree d).reports = d.reports :=
  by simp only [grantEngineIfFree] <;> (repeat' split) <;> simp
@[simp] theorem grantEngineIfFree_link (d : Device) : (grantEngineIfFree d).link = d.link :=
  by simp only [grantEngineIfFree] <;> (repeat' split) <;> simp

/-! `grantBurnerIfFree` -/

@[simp] theorem grantBurnerIfFree_checker (d : Device) : (grantBurnerIfFree d).checker = d.checker :=
  by simp only [grantBurnerIfFree] <;> (repeat' split) <;> simp
@[simp] theorem grantBurnerIfFree_map (d : Device) : (grantBurnerIfFree d).map = d.map :=
  by simp only [grantBurnerIfFree] <;> (repeat' split) <;> simp
@[simp] theorem grantBurnerIfFree_engine (d : Device) : (grantBurnerIfFree d).engine = d.engine :=
  by simp only [grantBurnerIfFree] <;> (repeat' split) <;> simp

/-! `arbitrate` -/

@[simp] theorem arbitrate_checker (d : Device) : (arbitrate d).checker = d.checker :=
  by simp only [arbitrate] <;> (repeat' split) <;> simp

/-! `startTransfer` -/

@[simp] theorem startTransfer_checker (w : Bool) (a : BitVec 26) (n : BitVec 4) (d : Device) : (startTransfer w a n d).checker = d.checker :=
  by simp only [startTransfer] <;> simp

/-! `acceptWrite` -/


/-! `returnBeat` -/

@[simp] theorem returnBeat_control (b : Beat) (d : Device) : (returnBeat b d).control = d.control :=
  by simp only [returnBeat] <;> (repeat' split) <;> simp
@[simp] theorem returnBeat_arbiter (b : Beat) (d : Device) : (returnBeat b d).arbiter = d.arbiter :=
  by simp only [returnBeat] <;> (repeat' split) <;> simp
@[simp] theorem returnBeat_ring (b : Beat) (d : Device) : (returnBeat b d).ring = d.ring :=
  by simp only [returnBeat] <;> (repeat' split) <;> simp
@[simp] theorem returnBeat_checker (b : Beat) (d : Device) : (returnBeat b d).checker = d.checker :=
  by simp only [returnBeat] <;> (repeat' split) <;> simp
@[simp] theorem returnBeat_map (b : Beat) (d : Device) : (returnBeat b d).map = d.map :=
  by simp only [returnBeat] <;> (repeat' split) <;> simp
@[simp] theorem returnBeat_engine (b : Beat) (d : Device) : (returnBeat b d).engine = d.engine :=
  by simp only [returnBeat] <;> (repeat' split) <;> simp

/-! `completeBurner` -/

@[simp] theorem completeBurner_control (d : Device) : (completeBurner d).control = d.control :=
  rfl
@[simp] theorem completeBurner_arbiter (d : Device) : (completeBurner d).arbiter = d.arbiter :=
  rfl
@[simp] theorem completeBurner_ring (d : Device) : (completeBurner d).ring = d.ring :=
  rfl
@[simp] theorem completeBurner_checker (d : Device) : (completeBurner d).checker = d.checker :=
  rfl
@[simp] theorem completeBurner_map (d : Device) : (completeBurner d).map = d.map :=
  rfl
@[simp] theorem completeBurner_engine (d : Device) : (completeBurner d).engine = d.engine :=
  rfl
@[simp] theorem completeBurner_delivery (d : Device) : (completeBurner d).delivery = d.delivery :=
  rfl
@[simp] theorem completeBurner_reports (d : Device) : (completeBurner d).reports = d.reports :=
  rfl
@[simp] theorem completeBurner_link (d : Device) : (completeBurner d).link = d.link :=
  rfl

/-! `completeTransfer` -/

@[simp] theorem completeTransfer_checker (m : MemTransfer) (bs : List Beat) (d : Device) : (completeTransfer m bs d).checker = d.checker :=
  by simp only [completeTransfer] <;> (repeat' split) <;> simp

/-! `reloadLockHeld` -/

@[simp] theorem reloadLockHeld_control (t : Transaction) (d : Device) : (reloadLockHeld t d).control = d.control :=
  by simp only [reloadLockHeld] <;> (repeat' split) <;> simp
@[simp] theorem reloadLockHeld_port (t : Transaction) (d : Device) : (reloadLockHeld t d).port = d.port :=
  by simp only [reloadLockHeld] <;> (repeat' split) <;> simp
@[simp] theorem reloadLockHeld_arbiter (t : Transaction) (d : Device) : (reloadLockHeld t d).arbiter = d.arbiter :=
  by simp only [reloadLockHeld] <;> (repeat' split) <;> simp
@[simp] theorem reloadLockHeld_checker (t : Transaction) (d : Device) : (reloadLockHeld t d).checker = d.checker :=
  by simp only [reloadLockHeld] <;> (repeat' split) <;> simp
@[simp] theorem reloadLockHeld_map (t : Transaction) (d : Device) : (reloadLockHeld t d).map = d.map :=
  by simp only [reloadLockHeld] <;> (repeat' split) <;> simp
@[simp] theorem reloadLockHeld_engine (t : Transaction) (d : Device) : (reloadLockHeld t d).engine = d.engine :=
  by simp only [reloadLockHeld] <;> (repeat' split) <;> simp
@[simp] theorem reloadLockHeld_delivery (t : Transaction) (d : Device) : (reloadLockHeld t d).delivery = d.delivery :=
  by simp only [reloadLockHeld] <;> (repeat' split) <;> simp
@[simp] theorem reloadLockHeld_reports (t : Transaction) (d : Device) : (reloadLockHeld t d).reports = d.reports :=
  by simp only [reloadLockHeld] <;> (repeat' split) <;> simp
@[simp] theorem reloadLockHeld_link (t : Transaction) (d : Device) : (reloadLockHeld t d).link = d.link :=
  by simp only [reloadLockHeld] <;> (repeat' split) <;> simp

/-! `putReply` -/

@[simp] theorem putReply_control (p : TransactionPhase) (bs : List Byte) (d : Device) : (putReply p bs d).control = d.control :=
  by simp only [putReply] <;> (repeat' split) <;> simp
@[simp] theorem putReply_port (p : TransactionPhase) (bs : List Byte) (d : Device) : (putReply p bs d).port = d.port :=
  by simp only [putReply] <;> (repeat' split) <;> simp
@[simp] theorem putReply_arbiter (p : TransactionPhase) (bs : List Byte) (d : Device) : (putReply p bs d).arbiter = d.arbiter :=
  by simp only [putReply] <;> (repeat' split) <;> simp
@[simp] theorem putReply_ring (p : TransactionPhase) (bs : List Byte) (d : Device) : (putReply p bs d).ring = d.ring :=
  by simp only [putReply] <;> (repeat' split) <;> simp
@[simp] theorem putReply_checker (p : TransactionPhase) (bs : List Byte) (d : Device) : (putReply p bs d).checker = d.checker :=
  by simp only [putReply] <;> (repeat' split) <;> simp
@[simp] theorem putReply_map (p : TransactionPhase) (bs : List Byte) (d : Device) : (putReply p bs d).map = d.map :=
  by simp only [putReply] <;> (repeat' split) <;> simp
@[simp] theorem putReply_engine (p : TransactionPhase) (bs : List Byte) (d : Device) : (putReply p bs d).engine = d.engine :=
  by simp only [putReply] <;> (repeat' split) <;> simp
@[simp] theorem putReply_delivery (p : TransactionPhase) (bs : List Byte) (d : Device) : (putReply p bs d).delivery = d.delivery :=
  by simp only [putReply] <;> (repeat' split) <;> simp
@[simp] theorem putReply_reports (p : TransactionPhase) (bs : List Byte) (d : Device) : (putReply p bs d).reports = d.reports :=
  by simp only [putReply] <;> (repeat' split) <;> simp

/-! `goodRequest` -/

@[simp] theorem goodRequest_control (bs : List Byte) (d : Device) : (goodRequest bs d).control = d.control :=
  by simp only [goodRequest] <;> simp
@[simp] theorem goodRequest_port (bs : List Byte) (d : Device) : (goodRequest bs d).port = d.port :=
  by simp only [goodRequest] <;> simp
@[simp] theorem goodRequest_arbiter (bs : List Byte) (d : Device) : (goodRequest bs d).arbiter = d.arbiter :=
  by simp only [goodRequest] <;> simp
@[simp] theorem goodRequest_ring (bs : List Byte) (d : Device) : (goodRequest bs d).ring = d.ring :=
  by simp only [goodRequest] <;> simp
@[simp] theorem goodRequest_checker (bs : List Byte) (d : Device) : (goodRequest bs d).checker = d.checker :=
  by simp only [goodRequest] <;> simp
@[simp] theorem goodRequest_map (bs : List Byte) (d : Device) : (goodRequest bs d).map = d.map :=
  by simp only [goodRequest] <;> simp
@[simp] theorem goodRequest_engine (bs : List Byte) (d : Device) : (goodRequest bs d).engine = d.engine :=
  by simp only [goodRequest] <;> simp
@[simp] theorem goodRequest_delivery (bs : List Byte) (d : Device) : (goodRequest bs d).delivery = d.delivery :=
  by simp only [goodRequest] <;> simp
@[simp] theorem goodRequest_reports (bs : List Byte) (d : Device) : (goodRequest bs d).reports = d.reports :=
  by simp only [goodRequest] <;> simp

/-! `badRequest` -/

@[simp] theorem badRequest_control (d : Device) : (badRequest d).control = d.control :=
  by simp only [badRequest] <;> simp
@[simp] theorem badRequest_port (d : Device) : (badRequest d).port = d.port :=
  by simp only [badRequest] <;> simp
@[simp] theorem badRequest_arbiter (d : Device) : (badRequest d).arbiter = d.arbiter :=
  by simp only [badRequest] <;> simp
@[simp] theorem badRequest_ring (d : Device) : (badRequest d).ring = d.ring :=
  by simp only [badRequest] <;> simp
@[simp] theorem badRequest_checker (d : Device) : (badRequest d).checker = d.checker :=
  by simp only [badRequest] <;> simp
@[simp] theorem badRequest_map (d : Device) : (badRequest d).map = d.map :=
  by simp only [badRequest] <;> simp
@[simp] theorem badRequest_engine (d : Device) : (badRequest d).engine = d.engine :=
  by simp only [badRequest] <;> simp
@[simp] theorem badRequest_delivery (d : Device) : (badRequest d).delivery = d.delivery :=
  by simp only [badRequest] <;> simp
@[simp] theorem badRequest_reports (d : Device) : (badRequest d).reports = d.reports :=
  by simp only [badRequest] <;> simp

/-! `storePayload` -/

@[simp] theorem storePayload_port (r : InputRequest) (p : List Byte) (d : Device) : (storePayload r p d).port = d.port :=
  by cases r <;> rfl
@[simp] theorem storePayload_arbiter (r : InputRequest) (p : List Byte) (d : Device) : (storePayload r p d).arbiter = d.arbiter :=
  by cases r <;> rfl
@[simp] theorem storePayload_ring (r : InputRequest) (p : List Byte) (d : Device) : (storePayload r p d).ring = d.ring :=
  by cases r <;> rfl
@[simp] theorem storePayload_checker (r : InputRequest) (p : List Byte) (d : Device) : (storePayload r p d).checker = d.checker :=
  by cases r <;> rfl
@[simp] theorem storePayload_map (r : InputRequest) (p : List Byte) (d : Device) : (storePayload r p d).map = d.map :=
  by cases r <;> rfl
@[simp] theorem storePayload_engine (r : InputRequest) (p : List Byte) (d : Device) : (storePayload r p d).engine = d.engine :=
  by cases r <;> rfl
@[simp] theorem storePayload_delivery (r : InputRequest) (p : List Byte) (d : Device) : (storePayload r p d).delivery = d.delivery :=
  by cases r <;> rfl
@[simp] theorem storePayload_reports (r : InputRequest) (p : List Byte) (d : Device) : (storePayload r p d).reports = d.reports :=
  by cases r <;> rfl

/-! `feedPayload` -/

@[simp] theorem feedPayload_port (r : InputRequest) (p : List Byte) (d : Device) : (feedPayload r p d).port = d.port :=
  by simp only [feedPayload] <;> (repeat' split) <;> simp
@[simp] theorem feedPayload_arbiter (r : InputRequest) (p : List Byte) (d : Device) : (feedPayload r p d).arbiter = d.arbiter :=
  by simp only [feedPayload] <;> (repeat' split) <;> simp
@[simp] theorem feedPayload_ring (r : InputRequest) (p : List Byte) (d : Device) : (feedPayload r p d).ring = d.ring :=
  by simp only [feedPayload] <;> (repeat' split) <;> simp
@[simp] theorem feedPayload_checker (r : InputRequest) (p : List Byte) (d : Device) : (feedPayload r p d).checker = d.checker :=
  by simp only [feedPayload] <;> (repeat' split) <;> simp
@[simp] theorem feedPayload_map (r : InputRequest) (p : List Byte) (d : Device) : (feedPayload r p d).map = d.map :=
  by simp only [feedPayload] <;> (repeat' split) <;> simp
@[simp] theorem feedPayload_engine (r : InputRequest) (p : List Byte) (d : Device) : (feedPayload r p d).engine = d.engine :=
  by simp only [feedPayload] <;> (repeat' split) <;> simp
@[simp] theorem feedPayload_delivery (r : InputRequest) (p : List Byte) (d : Device) : (feedPayload r p d).delivery = d.delivery :=
  by simp only [feedPayload] <;> (repeat' split) <;> simp
@[simp] theorem feedPayload_reports (r : InputRequest) (p : List Byte) (d : Device) : (feedPayload r p d).reports = d.reports :=
  by simp only [feedPayload] <;> (repeat' split) <;> simp

/-! `endTransaction` -/

@[simp] theorem endTransaction_control (d : Device) : (endTransaction d).control = d.control :=
  by simp only [endTransaction] <;> (repeat' split) <;> simp
@[simp] theorem endTransaction_port (d : Device) : (endTransaction d).port = d.port :=
  by simp only [endTransaction] <;> (repeat' split) <;> simp
@[simp] theorem endTransaction_arbiter (d : Device) : (endTransaction d).arbiter = d.arbiter :=
  by simp only [endTransaction] <;> (repeat' split) <;> simp
@[simp] theorem endTransaction_ring (d : Device) : (endTransaction d).ring = d.ring :=
  by simp only [endTransaction] <;> (repeat' split) <;> simp
@[simp] theorem endTransaction_checker (d : Device) : (endTransaction d).checker = d.checker :=
  by simp only [endTransaction] <;> (repeat' split) <;> simp
@[simp] theorem endTransaction_map (d : Device) : (endTransaction d).map = d.map :=
  by simp only [endTransaction] <;> (repeat' split) <;> simp
@[simp] theorem endTransaction_engine (d : Device) : (endTransaction d).engine = d.engine :=
  by simp only [endTransaction] <;> (repeat' split) <;> simp
@[simp] theorem endTransaction_delivery (d : Device) : (endTransaction d).delivery = d.delivery :=
  by simp only [endTransaction] <;> (repeat' split) <;> simp
@[simp] theorem endTransaction_reports (d : Device) : (endTransaction d).reports = d.reports :=
  by simp only [endTransaction] <;> (repeat' split) <;> simp

/-! `fillHolder` -/

@[simp] theorem fillHolder_control (d : Device) : (fillHolder d).control = d.control :=
  by simp only [fillHolder] <;> (repeat' split) <;> simp
@[simp] theorem fillHolder_port (d : Device) : (fillHolder d).port = d.port :=
  by simp only [fillHolder] <;> (repeat' split) <;> simp
@[simp] theorem fillHolder_arbiter (d : Device) : (fillHolder d).arbiter = d.arbiter :=
  by simp only [fillHolder] <;> (repeat' split) <;> simp
@[simp] theorem fillHolder_ring (d : Device) : (fillHolder d).ring = d.ring :=
  by simp only [fillHolder] <;> (repeat' split) <;> simp
@[simp] theorem fillHolder_checker (d : Device) : (fillHolder d).checker = d.checker :=
  by simp only [fillHolder] <;> (repeat' split) <;> simp
@[simp] theorem fillHolder_map (d : Device) : (fillHolder d).map = d.map :=
  by simp only [fillHolder] <;> (repeat' split) <;> simp
@[simp] theorem fillHolder_engine (d : Device) : (fillHolder d).engine = d.engine :=
  by simp only [fillHolder] <;> (repeat' split) <;> simp
@[simp] theorem fillHolder_delivery (d : Device) : (fillHolder d).delivery = d.delivery :=
  by simp only [fillHolder] <;> (repeat' split) <;> simp
@[simp] theorem fillHolder_reports (d : Device) : (fillHolder d).reports = d.reports :=
  by simp only [fillHolder] <;> (repeat' split) <;> simp

end Sys2Proof.Machine
end

