-- ==== Sys2Proof/Laws/Finer.lean ====
section
/-! SUPPORT. Finer frames: the operations of the buffer bus leave the attention enables, REQUEST_BAD and the snapshot holder alone,
and the staged settings and the active geometry. Only the link's own requests change those. -/

namespace Sys2Proof.Machine

set_option linter.unnecessarySeqFocus false

/-! `loseLine` -/

@[simp] theorem loseLine_enables (s : Nat) (b : Bool) (d : Device) : (loseLine s b d).link.enables = d.link.enables :=
  by simp only [loseLine] <;> (repeat' split) <;> simp
@[simp] theorem loseLine_requestBad (s : Nat) (b : Bool) (d : Device) : (loseLine s b d).link.requestBad = d.link.requestBad :=
  by simp only [loseLine] <;> (repeat' split) <;> simp
@[simp] theorem loseLine_holder (s : Nat) (b : Bool) (d : Device) : (loseLine s b d).link.holder = d.link.holder :=
  by simp only [loseLine] <;> (repeat' split) <;> simp

/-! `handOver` -/

@[simp] theorem handOver_enables (s i : Nat) (c : Causes) (b : Bool) (d : Device) : (handOver s i c b d).link.enables = d.link.enables :=
  by simp only [handOver] <;> (repeat' split) <;> simp
@[simp] theorem handOver_requestBad (s i : Nat) (c : Causes) (b : Bool) (d : Device) : (handOver s i c b d).link.requestBad = d.link.requestBad :=
  by simp only [handOver] <;> (repeat' split) <;> simp
@[simp] theorem handOver_holder (s i : Nat) (c : Causes) (b : Bool) (d : Device) : (handOver s i c b d).link.holder = d.link.holder :=
  by simp only [handOver] <;> (repeat' split) <;> simp

/-! `foldQuality` -/

@[simp] theorem foldQuality_enables (q : Nat) (d : Device) : (foldQuality q d).link.enables = d.link.enables :=
  by simp only [foldQuality] <;> (repeat' split) <;> simp
@[simp] theorem foldQuality_requestBad (q : Nat) (d : Device) : (foldQuality q d).link.requestBad = d.link.requestBad :=
  by simp only [foldQuality] <;> (repeat' split) <;> simp
@[simp] theorem foldQuality_holder (q : Nat) (d : Device) : (foldQuality q d).link.holder = d.link.holder :=
  by simp only [foldQuality] <;> (repeat' split) <;> simp

/-! `offerReport` -/

@[simp] theorem offerReport_enables (r : FrameReport) (d : Device) : (offerReport r d).link.enables = d.link.enables :=
  by simp only [offerReport] <;> (repeat' split) <;> simp
@[simp] theorem offerReport_requestBad (r : FrameReport) (d : Device) : (offerReport r d).link.requestBad = d.link.requestBad :=
  by simp only [offerReport] <;> (repeat' split) <;> simp
@[simp] theorem offerReport_holder (r : FrameReport) (d : Device) : (offerReport r d).link.holder = d.link.holder :=
  by simp only [offerReport] <;> (repeat' split) <;> simp

/-! `report` -/

@[simp] theorem report_enables (e : Ending) (d : Device) : (report e d).link.enables = d.link.enables :=
  by simp only [report] <;> simp
@[simp] theorem report_requestBad (e : Ending) (d : Device) : (report e d).link.requestBad = d.link.requestBad :=
  by simp only [report] <;> simp
@[simp] theorem report_holder (e : Ending) (d : Device) : (report e d).link.holder = d.link.holder :=
  by simp only [report] <;> simp

/-! `chargeHold` -/

@[simp] theorem chargeHold_enables (c : Nat) (d : Device) : (chargeHold c d).link.enables = d.link.enables :=
  by simp only [chargeHold] <;> (repeat' split) <;> simp
@[simp] theorem chargeHold_requestBad (c : Nat) (d : Device) : (chargeHold c d).link.requestBad = d.link.requestBad :=
  by simp only [chargeHold] <;> (repeat' split) <;> simp
@[simp] theorem chargeHold_holder (c : Nat) (d : Device) : (chargeHold c d).link.holder = d.link.holder :=
  by simp only [chargeHold] <;> (repeat' split) <;> simp

/-! `releaseByWriteBack` -/

@[simp] theorem releaseByWriteBack_enables (s i : Nat) (d : Device) : (releaseByWriteBack s i d).link.enables = d.link.enables :=
  by simp only [releaseByWriteBack] <;> (repeat' split) <;> simp
@[simp] theorem releaseByWriteBack_requestBad (s i : Nat) (d : Device) : (releaseByWriteBack s i d).link.requestBad = d.link.requestBad :=
  by simp only [releaseByWriteBack] <;> (repeat' split) <;> simp
@[simp] theorem releaseByWriteBack_holder (s i : Nat) (d : Device) : (releaseByWriteBack s i d).link.holder = d.link.holder :=
  by simp only [releaseByWriteBack] <;> (repeat' split) <;> simp

/-! `expireHold` -/

@[simp] theorem expireHold_enables (d : Device) : (expireHold d).link.enables = d.link.enables :=
  by simp only [expireHold] <;> (repeat' split) <;> simp
@[simp] theorem expireHold_requestBad (d : Device) : (expireHold d).link.requestBad = d.link.requestBad :=
  by simp only [expireHold] <;> (repeat' split) <;> simp
@[simp] theorem expireHold_holder (d : Device) : (expireHold d).link.holder = d.link.holder :=
  by simp only [expireHold] <;> (repeat' split) <;> simp

/-! `tickHold` -/

@[simp] theorem tickHold_enables (d : Device) : (tickHold d).link.enables = d.link.enables :=
  by simp only [tickHold] <;> (repeat' split) <;> simp
@[simp] theorem tickHold_requestBad (d : Device) : (tickHold d).link.requestBad = d.link.requestBad :=
  by simp only [tickHold] <;> (repeat' split) <;> simp
@[simp] theorem tickHold_holder (d : Device) : (tickHold d).link.holder = d.link.holder :=
  by simp only [tickHold] <;> (repeat' split) <;> simp

/-! `handOverRecord` -/

@[simp] theorem handOverRecord_enables (r : DrainRecord) (d : Device) : (handOverRecord r d).link.enables = d.link.enables :=
  by simp only [handOverRecord] <;> simp
@[simp] theorem handOverRecord_requestBad (r : DrainRecord) (d : Device) : (handOverRecord r d).link.requestBad = d.link.requestBad :=
  by simp only [handOverRecord] <;> simp
@[simp] theorem handOverRecord_holder (r : DrainRecord) (d : Device) : (handOverRecord r d).link.holder = d.link.holder :=
  by simp only [handOverRecord] <;> simp

/-! `handOverClosing` -/

@[simp] theorem handOverClosing_enables (d : Device) : (handOverClosing d).link.enables = d.link.enables :=
  by simp only [handOverClosing] <;> (repeat' split) <;> simp
@[simp] theorem handOverClosing_requestBad (d : Device) : (handOverClosing d).link.requestBad = d.link.requestBad :=
  by simp only [handOverClosing] <;> (repeat' split) <;> simp
@[simp] theorem handOverClosing_holder (d : Device) : (handOverClosing d).link.holder = d.link.holder :=
  by simp only [handOverClosing] <;> (repeat' split) <;> simp

/-! `handOverDraining` -/

@[simp] theorem handOverDraining_enables (k : EndKind) (d : Device) : (handOverDraining k d).link.enables = d.link.enables :=
  by simp only [handOverDraining] <;> (repeat' split) <;> simp
@[simp] theorem handOverDraining_requestBad (k : EndKind) (d : Device) : (handOverDraining k d).link.requestBad = d.link.requestBad :=
  by simp only [handOverDraining] <;> (repeat' split) <;> simp
@[simp] theorem handOverDraining_holder (k : EndKind) (d : Device) : (handOverDraining k d).link.holder = d.link.holder :=
  by simp only [handOverDraining] <;> (repeat' split) <;> simp

/-! `closeRecord` -/

@[simp] theorem closeRecord_enables (d : Device) : (closeRecord d).link.enables = d.link.enables :=
  by simp only [closeRecord] <;> (repeat' split) <;> simp
@[simp] theorem closeRecord_requestBad (d : Device) : (closeRecord d).link.requestBad = d.link.requestBad :=
  by simp only [closeRecord] <;> (repeat' split) <;> simp
@[simp] theorem closeRecord_holder (d : Device) : (closeRecord d).link.holder = d.link.holder :=
  by simp only [closeRecord] <;> (repeat' split) <;> simp

/-! `deliverBeat` -/

@[simp] theorem deliverBeat_enables (t : BeatTag) (b : Beat) (d : Device) : ((deliverBeat t b d).1).link.enables = d.link.enables :=
  by simp only [deliverBeat] <;> (repeat' split) <;> simp
@[simp] theorem deliverBeat_requestBad (t : BeatTag) (b : Beat) (d : Device) : ((deliverBeat t b d).1).link.requestBad = d.link.requestBad :=
  by simp only [deliverBeat] <;> (repeat' split) <;> simp
@[simp] theorem deliverBeat_holder (t : BeatTag) (b : Beat) (d : Device) : ((deliverBeat t b d).1).link.holder = d.link.holder :=
  by simp only [deliverBeat] <;> (repeat' split) <;> simp

/-! `passThrough` -/

@[simp] theorem passThrough_enables (t : Option BeatTag) (b : Beat) (d : Device) : ((passThrough t b d).1).link.enables = d.link.enables :=
  by simp only [passThrough] <;> (repeat' split) <;> simp
@[simp] theorem passThrough_requestBad (t : Option BeatTag) (b : Beat) (d : Device) : ((passThrough t b d).1).link.requestBad = d.link.requestBad :=
  by simp only [passThrough] <;> (repeat' split) <;> simp
@[simp] theorem passThrough_holder (t : Option BeatTag) (b : Beat) (d : Device) : ((passThrough t b d).1).link.holder = d.link.holder :=
  by simp only [passThrough] <;> (repeat' split) <;> simp

/-! `finishWriteBack` -/

@[simp] theorem finishWriteBack_enables (j : Job) (d : Device) : (finishWriteBack j d).link.enables = d.link.enables :=
  by simp only [finishWriteBack] <;> (repeat' split) <;> simp
@[simp] theorem finishWriteBack_requestBad (j : Job) (d : Device) : (finishWriteBack j d).link.requestBad = d.link.requestBad :=
  by simp only [finishWriteBack] <;> (repeat' split) <;> simp
@[simp] theorem finishWriteBack_holder (j : Job) (d : Device) : (finishWriteBack j d).link.holder = d.link.holder :=
  by simp only [finishWriteBack] <;> (repeat' split) <;> simp

/-! `finishRun` -/

@[simp] theorem finishRun_enables (j : Job) (d : Device) : (finishRun j d).link.enables = d.link.enables :=
  by simp only [finishRun] <;> (repeat' split) <;> simp
@[simp] theorem finishRun_requestBad (j : Job) (d : Device) : (finishRun j d).link.requestBad = d.link.requestBad :=
  by simp only [finishRun] <;> (repeat' split) <;> simp
@[simp] theorem finishRun_holder (j : Job) (d : Device) : (finishRun j d).link.holder = d.link.holder :=
  by simp only [finishRun] <;> (repeat' split) <;> simp

/-! `engineCompletion` -/

@[simp] theorem engineCompletion_enables (m : MemTransfer) (bs : List Beat) (d : Device) : (engineCompletion m bs d).link.enables = d.link.enables :=
  by simp only [engineCompletion] <;> (repeat' split) <;> simp
@[simp] theorem engineCompletion_requestBad (m : MemTransfer) (bs : List Beat) (d : Device) : (engineCompletion m bs d).link.requestBad = d.link.requestBad :=
  by simp only [engineCompletion] <;> (repeat' split) <;> simp
@[simp] theorem engineCompletion_holder (m : MemTransfer) (bs : List Beat) (d : Device) : (engineCompletion m bs d).link.holder = d.link.holder :=
  by simp only [engineCompletion] <;> (repeat' split) <;> simp

/-! `tearLine` -/

@[simp] theorem tearLine_enables (s : Nat) (c : OpenLine) (d : Device) : (tearLine s c d).link.enables = d.link.enables :=
  by simp only [tearLine] <;> simp
@[simp] theorem tearLine_requestBad (s : Nat) (c : OpenLine) (d : Device) : (tearLine s c d).link.requestBad = d.link.requestBad :=
  by simp only [tearLine] <;> simp
@[simp] theorem tearLine_holder (s : Nat) (c : OpenLine) (d : Device) : (tearLine s c d).link.holder = d.link.holder :=
  by simp only [tearLine] <;> simp

/-! `endLine` -/

@[simp] theorem endLine_enables (s : Nat) (b : Beat) (c : OpenLine) (d : Device) : (endLine s b c d).link.enables = d.link.enables :=
  by simp only [endLine] <;> (repeat' split) <;> simp
@[simp] theorem endLine_requestBad (s : Nat) (b : Beat) (c : OpenLine) (d : Device) : (endLine s b c d).link.requestBad = d.link.requestBad :=
  by simp only [endLine] <;> (repeat' split) <;> simp
@[simp] theorem endLine_holder (s : Nat) (b : Beat) (c : OpenLine) (d : Device) : (endLine s b c d).link.holder = d.link.holder :=
  by simp only [endLine] <;> (repeat' split) <;> simp

/-! `continueLine` -/

@[simp] theorem continueLine_enables (s q : Nat) (b : Beat) (c : OpenLine) (d : Device) : (continueLine s q b c d).link.enables = d.link.enables :=
  by simp only [continueLine] <;> (repeat' split) <;> simp
@[simp] theorem continueLine_requestBad (s q : Nat) (b : Beat) (c : OpenLine) (d : Device) : (continueLine s q b c d).link.requestBad = d.link.requestBad :=
  by simp only [continueLine] <;> (repeat' split) <;> simp
@[simp] theorem continueLine_holder (s q : Nat) (b : Beat) (c : OpenLine) (d : Device) : (continueLine s q b c d).link.holder = d.link.holder :=
  by simp only [continueLine] <;> (repeat' split) <;> simp

/-! `startBeat` -/

@[simp] theorem startBeat_enables (s i q : Nat) (b : Beat) (f : Bool) (d : Device) : (startBeat s i q b f d).link.enables = d.link.enables :=
  by simp only [startBeat] <;> (repeat' split) <;> simp
@[simp] theorem startBeat_requestBad (s i q : Nat) (b : Beat) (f : Bool) (d : Device) : (startBeat s i q b f d).link.requestBad = d.link.requestBad :=
  by simp only [startBeat] <;> (repeat' split) <;> simp
@[simp] theorem startBeat_holder (s i q : Nat) (b : Beat) (f : Bool) (d : Device) : (startBeat s i q b f d).link.holder = d.link.holder :=
  by simp only [startBeat] <;> (repeat' split) <;> simp

/-! `checkBeat` -/

@[simp] theorem checkBeat_enables (s i q : Nat) (b : Beat) (e : Enables) (d : Device) : (checkBeat s i q b e d).link.enables = d.link.enables :=
  by simp only [checkBeat] <;> (repeat' split) <;> simp
@[simp] theorem checkBeat_requestBad (s i q : Nat) (b : Beat) (e : Enables) (d : Device) : (checkBeat s i q b e d).link.requestBad = d.link.requestBad :=
  by simp only [checkBeat] <;> (repeat' split) <;> simp
@[simp] theorem checkBeat_holder (s i q : Nat) (b : Beat) (e : Enables) (d : Device) : (checkBeat s i q b e d).link.holder = d.link.holder :=
  by simp only [checkBeat] <;> (repeat' split) <;> simp

/-! `missLine` -/

@[simp] theorem missLine_enables (s i : Nat) (d : Device) : (missLine s i d).link.enables = d.link.enables :=
  by simp only [missLine] <;> simp
@[simp] theorem missLine_requestBad (s i : Nat) (d : Device) : (missLine s i d).link.requestBad = d.link.requestBad :=
  by simp only [missLine] <;> simp
@[simp] theorem missLine_holder (s i : Nat) (d : Device) : (missLine s i d).link.holder = d.link.holder :=
  by simp only [missLine] <;> simp

/-! `missLines` -/

@[simp] theorem missLines_enables (s : Nat) (l : List Nat) (d : Device) : (l.foldl (fun d i => missLine s i d) d).link.enables = d.link.enables := by
  induction l generalizing d with
  | nil => rfl
  | cons i l ih => simp only [List.foldl_cons]; rw [ih]; simp
@[simp] theorem missLines_requestBad (s : Nat) (l : List Nat) (d : Device) : (l.foldl (fun d i => missLine s i d) d).link.requestBad = d.link.requestBad := by
  induction l generalizing d with
  | nil => rfl
  | cons i l ih => simp only [List.foldl_cons]; rw [ih]; simp
@[simp] theorem missLines_holder (s : Nat) (l : List Nat) (d : Device) : (l.foldl (fun d i => missLine s i d) d).link.holder = d.link.holder := by
  induction l generalizing d with
  | nil => rfl
  | cons i l ih => simp only [List.foldl_cons]; rw [ih]; simp

/-! `closeTable` -/

@[simp] theorem closeTable_enables (s : Nat) (d : Device) : (closeTable s d).link.enables = d.link.enables :=
  by simp only [closeTable] <;> (repeat' split) <;> simp
@[simp] theorem closeTable_requestBad (s : Nat) (d : Device) : (closeTable s d).link.requestBad = d.link.requestBad :=
  by simp only [closeTable] <;> (repeat' split) <;> simp
@[simp] theorem closeTable_holder (s : Nat) (d : Device) : (closeTable s d).link.holder = d.link.holder :=
  by simp only [closeTable] <;> (repeat' split) <;> simp

/-! `closeFill` -/

@[simp] theorem closeFill_enables (s : Nat) (b : Bool) (d : Device) : (closeFill s b d).link.enables = d.link.enables :=
  by simp only [closeFill] <;> (repeat' split) <;> simp
@[simp] theorem closeFill_requestBad (s : Nat) (b : Bool) (d : Device) : (closeFill s b d).link.requestBad = d.link.requestBad :=
  by simp only [closeFill] <;> (repeat' split) <;> simp
@[simp] theorem closeFill_holder (s : Nat) (b : Bool) (d : Device) : (closeFill s b d).link.holder = d.link.holder :=
  by simp only [closeFill] <;> (repeat' split) <;> simp

/-! `closeOpenFill` -/

@[simp] theorem closeOpenFill_enables (b : Bool) (d : Device) : (closeOpenFill b d).link.enables = d.link.enables :=
  by simp only [closeOpenFill] <;> (repeat' split) <;> simp
@[simp] theorem closeOpenFill_requestBad (b : Bool) (d : Device) : (closeOpenFill b d).link.requestBad = d.link.requestBad :=
  by simp only [closeOpenFill] <;> (repeat' split) <;> simp
@[simp] theorem closeOpenFill_holder (b : Bool) (d : Device) : (closeOpenFill b d).link.holder = d.link.holder :=
  by simp only [closeOpenFill] <;> (repeat' split) <;> simp

/-! `disposeFrame` -/

@[simp] theorem disposeFrame_enables (s : Nat) (d : Device) : (disposeFrame s d).link.enables = d.link.enables :=
  by simp only [disposeFrame] <;> (repeat' split) <;> simp
@[simp] theorem disposeFrame_requestBad (s : Nat) (d : Device) : (disposeFrame s d).link.requestBad = d.link.requestBad :=
  by simp only [disposeFrame] <;> (repeat' split) <;> simp
@[simp] theorem disposeFrame_holder (s : Nat) (d : Device) : (disposeFrame s d).link.holder = d.link.holder :=
  by simp only [disposeFrame] <;> (repeat' split) <;> simp

/-! `beginSlot` -/

@[simp] theorem beginSlot_enables (s : Nat) (d : Device) : (beginSlot s d).link.enables = d.link.enables :=
  by simp only [beginSlot] <;> simp
@[simp] theorem beginSlot_requestBad (s : Nat) (d : Device) : (beginSlot s d).link.requestBad = d.link.requestBad :=
  by simp only [beginSlot] <;> simp
@[simp] theorem beginSlot_holder (s : Nat) (d : Device) : (beginSlot s d).link.holder = d.link.holder :=
  by simp only [beginSlot] <;> simp

/-! `loseLock` -/

@[simp] theorem loseLock_enables (d : Device) : (loseLock d).link.enables = d.link.enables :=
  by simp only [loseLock] <;> simp
@[simp] theorem loseLock_requestBad (d : Device) : (loseLock d).link.requestBad = d.link.requestBad :=
  by simp only [loseLock] <;> simp
@[simp] theorem loseLock_holder (d : Device) : (loseLock d).link.holder = d.link.holder :=
  by simp only [loseLock] <;> simp

/-! `startRun` -/

@[simp] theorem startRun_geometry (s : Nat) (d : Device) : (startRun s d).control.geometry = d.control.geometry :=
  by simp only [startRun] <;> simp
@[simp] theorem startRun_staged (s : Nat) (d : Device) : (startRun s d).control.staged = d.control.staged :=
  by simp only [startRun] <;> simp
@[simp] theorem startRun_refusal (s : Nat) (d : Device) : (startRun s d).control.refusal = d.control.refusal :=
  by simp only [startRun] <;> simp

/-! `advanceTo` -/

@[simp] theorem advanceTo_enables (s : Nat) (d : Device) : (advanceTo s d).link.enables = d.link.enables :=
  by simp only [advanceTo] <;> simp
@[simp] theorem advanceTo_requestBad (s : Nat) (d : Device) : (advanceTo s d).link.requestBad = d.link.requestBad :=
  by simp only [advanceTo] <;> simp
@[simp] theorem advanceTo_holder (s : Nat) (d : Device) : (advanceTo s d).link.holder = d.link.holder :=
  by simp only [advanceTo] <;> simp

/-! `jumpTo` -/

@[simp] theorem jumpTo_enables (s : Nat) (d : Device) : (jumpTo s d).link.enables = d.link.enables :=
  by simp only [jumpTo] <;> (repeat' split) <;> simp
@[simp] theorem jumpTo_requestBad (s : Nat) (d : Device) : (jumpTo s d).link.requestBad = d.link.requestBad :=
  by simp only [jumpTo] <;> (repeat' split) <;> simp
@[simp] theorem jumpTo_holder (s : Nat) (d : Device) : (jumpTo s d).link.holder = d.link.holder :=
  by simp only [jumpTo] <;> (repeat' split) <;> simp

/-! `relockAt` -/

@[simp] theorem relockAt_enables (s : Nat) (d : Device) : (relockAt s d).link.enables = d.link.enables :=
  by simp only [relockAt] <;> simp
@[simp] theorem relockAt_requestBad (s : Nat) (d : Device) : (relockAt s d).link.requestBad = d.link.requestBad :=
  by simp only [relockAt] <;> simp
@[simp] theorem relockAt_holder (s : Nat) (d : Device) : (relockAt s d).link.holder = d.link.holder :=
  by simp only [relockAt] <;> simp

/-! `markStale` -/

@[simp] theorem markStale_enables (s : Nat) (d : Device) : (markStale s d).link.enables = d.link.enables :=
  by simp only [markStale] <;> (repeat' split) <;> simp
@[simp] theorem markStale_requestBad (s : Nat) (d : Device) : (markStale s d).link.requestBad = d.link.requestBad :=
  by simp only [markStale] <;> (repeat' split) <;> simp
@[simp] theorem markStale_holder (s : Nat) (d : Device) : (markStale s d).link.holder = d.link.holder :=
  by simp only [markStale] <;> (repeat' split) <;> simp

/-! `lockLoss` -/

@[simp] theorem lockLoss_enables (s : Nat) (d : Device) : (lockLoss s d).link.enables = d.link.enables :=
  by simp only [lockLoss] <;> simp
@[simp] theorem lockLoss_requestBad (s : Nat) (d : Device) : (lockLoss s d).link.requestBad = d.link.requestBad :=
  by simp only [lockLoss] <;> simp
@[simp] theorem lockLoss_holder (s : Nat) (d : Device) : (lockLoss s d).link.holder = d.link.holder :=
  by simp only [lockLoss] <;> simp

/-! `fillBeat` -/

@[simp] theorem fillBeat_enables (s i q : Nat) (b : Beat) (e : Enables) (d : Device) : (fillBeat s i q b e d).link.enables = d.link.enables :=
  by simp only [fillBeat] <;> (repeat' split) <;> simp
@[simp] theorem fillBeat_requestBad (s i q : Nat) (b : Beat) (e : Enables) (d : Device) : (fillBeat s i q b e d).link.requestBad = d.link.requestBad :=
  by simp only [fillBeat] <;> (repeat' split) <;> simp
@[simp] theorem fillBeat_holder (s i q : Nat) (b : Beat) (e : Enables) (d : Device) : (fillBeat s i q b e d).link.holder = d.link.holder :=
  by simp only [fillBeat] <;> (repeat' split) <;> simp

/-! `beginWrite` -/

@[simp] theorem beginWrite_enables (s : Nat) (d : Device) : (beginWrite s d).link.enables = d.link.enables :=
  by simp only [beginWrite] <;> (repeat' split) <;> simp
@[simp] theorem beginWrite_requestBad (s : Nat) (d : Device) : (beginWrite s d).link.requestBad = d.link.requestBad :=
  by simp only [beginWrite] <;> (repeat' split) <;> simp
@[simp] theorem beginWrite_holder (s : Nat) (d : Device) : (beginWrite s d).link.holder = d.link.holder :=
  by simp only [beginWrite] <;> (repeat' split) <;> simp

/-! `runningBeat` -/

@[simp] theorem runningBeat_enables (f : Bool) (s i q : Nat) (b : Beat) (e : Enables) (d : Device) : (runningBeat f s i q b e d).link.enables = d.link.enables :=
  by simp only [runningBeat] <;> (repeat' split) <;> simp
@[simp] theorem runningBeat_requestBad (f : Bool) (s i q : Nat) (b : Beat) (e : Enables) (d : Device) : (runningBeat f s i q b e d).link.requestBad = d.link.requestBad :=
  by simp only [runningBeat] <;> (repeat' split) <;> simp
@[simp] theorem runningBeat_holder (f : Bool) (s i q : Nat) (b : Beat) (e : Enables) (d : Device) : (runningBeat f s i q b e d).link.holder = d.link.holder :=
  by simp only [runningBeat] <;> (repeat' split) <;> simp

/-! `takeWriteBeat` -/

@[simp] theorem takeWriteBeat_enables (f o : Bool) (a : Nat) (b : Beat) (e : Enables) (d : Device) : (takeWriteBeat f o a b e d).link.enables = d.link.enables :=
  by simp only [takeWriteBeat] <;> (repeat' split) <;> simp
@[simp] theorem takeWriteBeat_requestBad (f o : Bool) (a : Nat) (b : Beat) (e : Enables) (d : Device) : (takeWriteBeat f o a b e d).link.requestBad = d.link.requestBad :=
  by simp only [takeWriteBeat] <;> (repeat' split) <;> simp
@[simp] theorem takeWriteBeat_holder (f o : Bool) (a : Nat) (b : Beat) (e : Enables) (d : Device) : (takeWriteBeat f o a b e d).link.holder = d.link.holder :=
  by simp only [takeWriteBeat] <;> (repeat' split) <;> simp
@[simp] theorem takeWriteBeat_geometry (f o : Bool) (a : Nat) (b : Beat) (e : Enables) (d : Device) : (takeWriteBeat f o a b e d).control.geometry = d.control.geometry :=
  by simp only [takeWriteBeat] <;> (repeat' split) <;> simp
@[simp] theorem takeWriteBeat_staged (f o : Bool) (a : Nat) (b : Beat) (e : Enables) (d : Device) : (takeWriteBeat f o a b e d).control.staged = d.control.staged :=
  by simp only [takeWriteBeat] <;> (repeat' split) <;> simp
@[simp] theorem takeWriteBeat_refusal (f o : Bool) (a : Nat) (b : Beat) (e : Enables) (d : Device) : (takeWriteBeat f o a b e d).control.refusal = d.control.refusal :=
  by simp only [takeWriteBeat] <;> (repeat' split) <;> simp

/-! `applyPending` -/

@[simp] theorem applyPending_geometry (d : Device) : (applyPending d).control.geometry = d.control.geometry :=
  by simp only [applyPending] <;> (repeat' split) <;> simp
@[simp] theorem applyPending_staged (d : Device) : (applyPending d).control.staged = d.control.staged :=
  by simp only [applyPending] <;> (repeat' split) <;> simp
@[simp] theorem applyPending_refusal (d : Device) : (applyPending d).control.refusal = d.control.refusal :=
  by simp only [applyPending] <;> (repeat' split) <;> simp

/-! `endDrain` -/

@[simp] theorem endDrain_enables (d : Device) : (endDrain d).link.enables = d.link.enables :=
  by simp only [endDrain] <;> (repeat' split) <;> simp
@[simp] theorem endDrain_requestBad (d : Device) : (endDrain d).link.requestBad = d.link.requestBad :=
  by simp only [endDrain] <;> (repeat' split) <;> simp
@[simp] theorem endDrain_holder (d : Device) : (endDrain d).link.holder = d.link.holder :=
  by simp only [endDrain] <;> (repeat' split) <;> simp

/-! `startDrain` -/

@[simp] theorem startDrain_enables (s : Nat) (d : Device) : (startDrain s d).link.enables = d.link.enables :=
  by simp only [startDrain] <;> simp
@[simp] theorem startDrain_requestBad (s : Nat) (d : Device) : (startDrain s d).link.requestBad = d.link.requestBad :=
  by simp only [startDrain] <;> simp
@[simp] theorem startDrain_holder (s : Nat) (d : Device) : (startDrain s d).link.holder = d.link.holder :=
  by simp only [startDrain] <;> simp
@[simp] theorem startDrain_geometry (s : Nat) (d : Device) : (startDrain s d).control.geometry = d.control.geometry :=
  by simp only [startDrain] <;> simp
@[simp] theorem startDrain_staged (s : Nat) (d : Device) : (startDrain s d).control.staged = d.control.staged :=
  by simp only [startDrain] <;> simp
@[simp] theorem startDrain_refusal (s : Nat) (d : Device) : (startDrain s d).control.refusal = d.control.refusal :=
  by simp only [startDrain] <;> simp

/-! `overtakeDrain` -/

@[simp] theorem overtakeDrain_enables (s : Nat) (d : Device) : (overtakeDrain s d).link.enables = d.link.enables :=
  by simp only [overtakeDrain] <;> simp
@[simp] theorem overtakeDrain_requestBad (s : Nat) (d : Device) : (overtakeDrain s d).link.requestBad = d.link.requestBad :=
  by simp only [overtakeDrain] <;> simp
@[simp] theorem overtakeDrain_holder (s : Nat) (d : Device) : (overtakeDrain s d).link.holder = d.link.holder :=
  by simp only [overtakeDrain] <;> simp
@[simp] theorem overtakeDrain_geometry (s : Nat) (d : Device) : (overtakeDrain s d).control.geometry = d.control.geometry :=
  by simp only [overtakeDrain] <;> simp
@[simp] theorem overtakeDrain_staged (s : Nat) (d : Device) : (overtakeDrain s d).control.staged = d.control.staged :=
  by simp only [overtakeDrain] <;> simp
@[simp] theorem overtakeDrain_refusal (s : Nat) (d : Device) : (overtakeDrain s d).control.refusal = d.control.refusal :=
  by simp only [overtakeDrain] <;> simp

/-! `baseRead` -/

@[simp] theorem baseRead_enables (s : Nat) (d : Device) : (baseRead s d).link.enables = d.link.enables :=
  by simp only [baseRead] <;> (repeat' split) <;> simp
@[simp] theorem baseRead_requestBad (s : Nat) (d : Device) : (baseRead s d).link.requestBad = d.link.requestBad :=
  by simp only [baseRead] <;> (repeat' split) <;> simp
@[simp] theorem baseRead_holder (s : Nat) (d : Device) : (baseRead s d).link.holder = d.link.holder :=
  by simp only [baseRead] <;> (repeat' split) <;> simp
@[simp] theorem baseRead_geometry (s : Nat) (d : Device) : (baseRead s d).control.geometry = d.control.geometry :=
  by simp only [baseRead] <;> (repeat' split) <;> simp
@[simp] theorem baseRead_staged (s : Nat) (d : Device) : (baseRead s d).control.staged = d.control.staged :=
  by simp only [baseRead] <;> (repeat' split) <;> simp
@[simp] theorem baseRead_refusal (s : Nat) (d : Device) : (baseRead s d).control.refusal = d.control.refusal :=
  by simp only [baseRead] <;> (repeat' split) <;> simp

/-! `askBeat` -/

@[simp] theorem askBeat_enables (a : Nat) (d : Device) : ((askBeat a d).device).link.enables = d.link.enables :=
  by simp only [askBeat] <;> (repeat' split) <;> simp
@[simp] theorem askBeat_requestBad (a : Nat) (d : Device) : ((askBeat a d).device).link.requestBad = d.link.requestBad :=
  by simp only [askBeat] <;> (repeat' split) <;> simp
@[simp] theorem askBeat_holder (a : Nat) (d : Device) : ((askBeat a d).device).link.holder = d.link.holder :=
  by simp only [askBeat] <;> (repeat' split) <;> simp
@[simp] theorem askBeat_geometry (a : Nat) (d : Device) : ((askBeat a d).device).control.geometry = d.control.geometry :=
  by simp only [askBeat] <;> (repeat' split) <;> simp
@[simp] theorem askBeat_staged (a : Nat) (d : Device) : ((askBeat a d).device).control.staged = d.control.staged :=
  by simp only [askBeat] <;> (repeat' split) <;> simp
@[simp] theorem askBeat_refusal (a : Nat) (d : Device) : ((askBeat a d).device).control.refusal = d.control.refusal :=
  by simp only [askBeat] <;> (repeat' split) <;> simp

/-! `takeIn` -/

@[simp] theorem takeIn_enables (k : Asked) : (takeIn k).link.enables = k.device.link.enables :=
  by simp only [takeIn] <;> (repeat' split) <;> simp
@[simp] theorem takeIn_requestBad (k : Asked) : (takeIn k).link.requestBad = k.device.link.requestBad :=
  by simp only [takeIn] <;> (repeat' split) <;> simp
@[simp] theorem takeIn_holder (k : Asked) : (takeIn k).link.holder = k.device.link.holder :=
  by simp only [takeIn] <;> (repeat' split) <;> simp
@[simp] theorem takeIn_geometry (k : Asked) : (takeIn k).control.geometry = k.device.control.geometry :=
  by simp only [takeIn] <;> (repeat' split) <;> simp
@[simp] theorem takeIn_staged (k : Asked) : (takeIn k).control.staged = k.device.control.staged :=
  by simp only [takeIn] <;> (repeat' split) <;> simp
@[simp] theorem takeIn_refusal (k : Asked) : (takeIn k).control.refusal = k.device.control.refusal :=
  by simp only [takeIn] <;> (repeat' split) <;> simp

/-! `formPart` -/

@[simp] theorem formPart_enables (n a : Nat) (f : Option Nat) (d : Device) : ((formPart n a f d).device).link.enables = d.link.enables := by
  induction n generalizing a f d with
  | zero => simp [formPart]
  | succ n ih => simp only [formPart]; (repeat' split) <;> simp [ih]
@[simp] theorem formPart_requestBad (n a : Nat) (f : Option Nat) (d : Device) : ((formPart n a f d).device).link.requestBad = d.link.requestBad := by
  induction n generalizing a f d with
  | zero => simp [formPart]
  | succ n ih => simp only [formPart]; (repeat' split) <;> simp [ih]
@[simp] theorem formPart_holder (n a : Nat) (f : Option Nat) (d : Device) : ((formPart n a f d).device).link.holder = d.link.holder := by
  induction n generalizing a f d with
  | zero => simp [formPart]
  | succ n ih => simp only [formPart]; (repeat' split) <;> simp [ih]
@[simp] theorem formPart_geometry (n a : Nat) (f : Option Nat) (d : Device) : ((formPart n a f d).device).control.geometry = d.control.geometry := by
  induction n generalizing a f d with
  | zero => simp [formPart]
  | succ n ih => simp only [formPart]; (repeat' split) <;> simp [ih]
@[simp] theorem formPart_staged (n a : Nat) (f : Option Nat) (d : Device) : ((formPart n a f d).device).control.staged = d.control.staged := by
  induction n generalizing a f d with
  | zero => simp [formPart]
  | succ n ih => simp only [formPart]; (repeat' split) <;> simp [ih]
@[simp] theorem formPart_refusal (n a : Nat) (f : Option Nat) (d : Device) : ((formPart n a f d).device).control.refusal = d.control.refusal := by
  induction n generalizing a f d with
  | zero => simp [formPart]
  | succ n ih => simp only [formPart]; (repeat' split) <;> simp [ih]

/-! `forwardPart` -/

@[simp] theorem forwardPart_enables (t : BurnerTransfer) (d : Device) : (forwardPart t d).link.enables = d.link.enables :=
  by simp only [forwardPart] <;> (repeat' split) <;> simp
@[simp] theorem forwardPart_requestBad (t : BurnerTransfer) (d : Device) : (forwardPart t d).link.requestBad = d.link.requestBad :=
  by simp only [forwardPart] <;> (repeat' split) <;> simp
@[simp] theorem forwardPart_holder (t : BurnerTransfer) (d : Device) : (forwardPart t d).link.holder = d.link.holder :=
  by simp only [forwardPart] <;> (repeat' split) <;> simp
@[simp] theorem forwardPart_geometry (t : BurnerTransfer) (d : Device) : (forwardPart t d).control.geometry = d.control.geometry :=
  by simp only [forwardPart] <;> (repeat' split) <;> simp
@[simp] theorem forwardPart_staged (t : BurnerTransfer) (d : Device) : (forwardPart t d).control.staged = d.control.staged :=
  by simp only [forwardPart] <;> (repeat' split) <;> simp
@[simp] theorem forwardPart_refusal (t : BurnerTransfer) (d : Device) : (forwardPart t d).control.refusal = d.control.refusal :=
  by simp only [forwardPart] <;> (repeat' split) <;> simp

/-! `grantBurner` -/

@[simp] theorem grantBurner_enables (d : Device) : (grantBurner d).link.enables = d.link.enables :=
  by simp only [grantBurner] <;> (repeat' split) <;> simp
@[simp] theorem grantBurner_requestBad (d : Device) : (grantBurner d).link.requestBad = d.link.requestBad :=
  by simp only [grantBurner] <;> (repeat' split) <;> simp
@[simp] theorem grantBurner_holder (d : Device) : (grantBurner d).link.holder = d.link.holder :=
  by simp only [grantBurner] <;> (repeat' split) <;> simp
@[simp] theorem grantBurner_geometry (d : Device) : (grantBurner d).control.geometry = d.control.geometry :=
  by simp only [grantBurner] <;> (repeat' split) <;> simp
@[simp] theorem grantBurner_staged (d : Device) : (grantBurner d).control.staged = d.control.staged :=
  by simp only [grantBurner] <;> (repeat' split) <;> simp
@[simp] theorem grantBurner_refusal (d : Device) : (grantBurner d).control.refusal = d.control.refusal :=
  by simp only [grantBurner] <;> (repeat' split) <;> simp

/-! `grantBurnerIfFree` -/

@[simp] theorem grantBurnerIfFree_enables (d : Device) : (grantBurnerIfFree d).link.enables = d.link.enables :=
  by simp only [grantBurnerIfFree] <;> (repeat' split) <;> simp
@[simp] theorem grantBurnerIfFree_requestBad (d : Device) : (grantBurnerIfFree d).link.requestBad = d.link.requestBad :=
  by simp only [grantBurnerIfFree] <;> (repeat' split) <;> simp
@[simp] theorem grantBurnerIfFree_holder (d : Device) : (grantBurnerIfFree d).link.holder = d.link.holder :=
  by simp only [grantBurnerIfFree] <;> (repeat' split) <;> simp
@[simp] theorem grantBurnerIfFree_geometry (d : Device) : (grantBurnerIfFree d).control.geometry = d.control.geometry :=
  by simp only [grantBurnerIfFree] <;> (repeat' split) <;> simp
@[simp] theorem grantBurnerIfFree_staged (d : Device) : (grantBurnerIfFree d).control.staged = d.control.staged :=
  by simp only [grantBurnerIfFree] <;> (repeat' split) <;> simp
@[simp] theorem grantBurnerIfFree_refusal (d : Device) : (grantBurnerIfFree d).control.refusal = d.control.refusal :=
  by simp only [grantBurnerIfFree] <;> (repeat' split) <;> simp

/-! `arbitrate` -/

@[simp] theorem arbitrate_enables (d : Device) : (arbitrate d).link.enables = d.link.enables :=
  by simp only [arbitrate] <;> (repeat' split) <;> simp
@[simp] theorem arbitrate_requestBad (d : Device) : (arbitrate d).link.requestBad = d.link.requestBad :=
  by simp only [arbitrate] <;> (repeat' split) <;> simp
@[simp] theorem arbitrate_holder (d : Device) : (arbitrate d).link.holder = d.link.holder :=
  by simp only [arbitrate] <;> (repeat' split) <;> simp
@[simp] theorem arbitrate_geometry (d : Device) : (arbitrate d).control.geometry = d.control.geometry :=
  by simp only [arbitrate] <;> (repeat' split) <;> simp
@[simp] theorem arbitrate_staged (d : Device) : (arbitrate d).control.staged = d.control.staged :=
  by simp only [arbitrate] <;> (repeat' split) <;> simp
@[simp] theorem arbitrate_refusal (d : Device) : (arbitrate d).control.refusal = d.control.refusal :=
  by simp only [arbitrate] <;> (repeat' split) <;> simp

/-! `startTransfer` -/

@[simp] theorem startTransfer_enables (w : Bool) (a : BitVec 26) (n : BitVec 4) (d : Device) : (startTransfer w a n d).link.enables = d.link.enables :=
  by simp only [startTransfer] <;> simp
@[simp] theorem startTransfer_requestBad (w : Bool) (a : BitVec 26) (n : BitVec 4) (d : Device) : (startTransfer w a n d).link.requestBad = d.link.requestBad :=
  by simp only [startTransfer] <;> simp
@[simp] theorem startTransfer_holder (w : Bool) (a : BitVec 26) (n : BitVec 4) (d : Device) : (startTransfer w a n d).link.holder = d.link.holder :=
  by simp only [startTransfer] <;> simp
@[simp] theorem startTransfer_geometry (w : Bool) (a : BitVec 26) (n : BitVec 4) (d : Device) : (startTransfer w a n d).control.geometry = d.control.geometry :=
  by simp only [startTransfer] <;> simp
@[simp] theorem startTransfer_staged (w : Bool) (a : BitVec 26) (n : BitVec 4) (d : Device) : (startTransfer w a n d).control.staged = d.control.staged :=
  by simp only [startTransfer] <;> simp
@[simp] theorem startTransfer_refusal (w : Bool) (a : BitVec 26) (n : BitVec 4) (d : Device) : (startTransfer w a n d).control.refusal = d.control.refusal :=
  by simp only [startTransfer] <;> simp

/-! `acceptWrite` -/

@[simp] theorem acceptWrite_enables (b : Beat) (e : Enables) (d : Device) : (acceptWrite b e d).link.enables = d.link.enables :=
  by simp only [acceptWrite, acceptBeat] <;> (repeat' split) <;> simp
@[simp] theorem acceptWrite_requestBad (b : Beat) (e : Enables) (d : Device) : (acceptWrite b e d).link.requestBad = d.link.requestBad :=
  by simp only [acceptWrite, acceptBeat] <;> (repeat' split) <;> simp
@[simp] theorem acceptWrite_holder (b : Beat) (e : Enables) (d : Device) : (acceptWrite b e d).link.holder = d.link.holder :=
  by simp only [acceptWrite, acceptBeat] <;> (repeat' split) <;> simp
@[simp] theorem acceptWrite_geometry (b : Beat) (e : Enables) (d : Device) : (acceptWrite b e d).control.geometry = d.control.geometry :=
  by simp only [acceptWrite, acceptBeat] <;> (repeat' split) <;> simp
@[simp] theorem acceptWrite_staged (b : Beat) (e : Enables) (d : Device) : (acceptWrite b e d).control.staged = d.control.staged :=
  by simp only [acceptWrite, acceptBeat] <;> (repeat' split) <;> simp
@[simp] theorem acceptWrite_refusal (b : Beat) (e : Enables) (d : Device) : (acceptWrite b e d).control.refusal = d.control.refusal :=
  by simp only [acceptWrite, acceptBeat] <;> (repeat' split) <;> simp

/-! `returnBeat` -/

@[simp] theorem returnBeat_enables (b : Beat) (d : Device) : (returnBeat b d).link.enables = d.link.enables :=
  by simp only [returnBeat] <;> (repeat' split) <;> simp
@[simp] theorem returnBeat_requestBad (b : Beat) (d : Device) : (returnBeat b d).link.requestBad = d.link.requestBad :=
  by simp only [returnBeat] <;> (repeat' split) <;> simp
@[simp] theorem returnBeat_holder (b : Beat) (d : Device) : (returnBeat b d).link.holder = d.link.holder :=
  by simp only [returnBeat] <;> (repeat' split) <;> simp

/-! `completeTransfer` -/

@[simp] theorem completeTransfer_enables (m : MemTransfer) (bs : List Beat) (d : Device) : (completeTransfer m bs d).link.enables = d.link.enables :=
  by simp only [completeTransfer] <;> (repeat' split) <;> simp
@[simp] theorem completeTransfer_requestBad (m : MemTransfer) (bs : List Beat) (d : Device) : (completeTransfer m bs d).link.requestBad = d.link.requestBad :=
  by simp only [completeTransfer] <;> (repeat' split) <;> simp
@[simp] theorem completeTransfer_holder (m : MemTransfer) (bs : List Beat) (d : Device) : (completeTransfer m bs d).link.holder = d.link.holder :=
  by simp only [completeTransfer] <;> (repeat' split) <;> simp
@[simp] theorem completeTransfer_geometry (m : MemTransfer) (bs : List Beat) (d : Device) : (completeTransfer m bs d).control.geometry = d.control.geometry :=
  by simp only [completeTransfer] <;> (repeat' split) <;> simp
@[simp] theorem completeTransfer_staged (m : MemTransfer) (bs : List Beat) (d : Device) : (completeTransfer m bs d).control.staged = d.control.staged :=
  by simp only [completeTransfer] <;> (repeat' split) <;> simp
@[simp] theorem completeTransfer_refusal (m : MemTransfer) (bs : List Beat) (d : Device) : (completeTransfer m bs d).control.refusal = d.control.refusal :=
  by simp only [completeTransfer] <;> (repeat' split) <;> simp

end Sys2Proof.Machine
end

