-- ==== Sys2Proof/Laws/Link.lean ====
section
/-! SUPPORT. What a request's take does to the part, said once: a proof about a request in a transaction before its request cites
these and unfolds neither `clockRequest` nor `putReply`. -/

namespace Sys2Proof.Machine

/-- A transaction before its request takes the request after LOCK_HELD's reload. -/
theorem clockRequest_awaits {s : State} {t : Transaction} (h : awaitsRequest s t) (code arg : Byte) (p : List Byte)
    (act : Device → Device) : clockRequest code arg p act s.toDevice = act (reloadLockHeld t s.toDevice) := by
  obtain ⟨h1, h2⟩ := h
  simp [clockRequest, h1, h2]

/-- The reload changes LOCK_HELD alone. -/
theorem reloadLockHeld_eq (t : Transaction) (s : State) :
    reloadLockHeld t s.toDevice = { s.toDevice with ring := { s.ring with lockHeld := lockHeldAfter t s } } := by
  unfold reloadLockHeld lockHeldAfter lockBit
  split <;> rfl

/-- A good request with a reply leaves the transaction taken, the reply formed and REQUEST_BAD clear. -/
theorem goodRequest_awaits {s : State} {t : Transaction} (h : awaitsRequest s t) (d : Device) (bytes : List Byte)
    (hl : d.link.line = s.link.line) :
    goodRequest bytes d = { d with link := { d.link with
      line := .active { t with phase := .taken, reply := bytes }, requestBad := false } } := by
  simp [goodRequest, putReply, hl, h.1, setLine, setRequestBad]

/-- A bad request leaves the transaction taken, with no reply, and REQUEST_BAD set. -/
theorem badRequest_awaits {s : State} {t : Transaction} (h : awaitsRequest s t) (d : Device)
    (hl : d.link.line = s.link.line) :
    badRequest d = { d with link := { d.link with
      line := .active { t with phase := .taken, reply := [] }, requestBad := true } } := by
  simp [badRequest, putReply, hl, h.1, setLine, setRequestBad]

/-- LDO gives nothing with LSEL high. -/
@[simp] theorem ldoOut_high (k : Nat) : ldoOut .high k = none := rfl

/-- LDO gives nothing while LSEL is ignored. -/
@[simp] theorem ldoOut_ignored (k : Nat) : ldoOut .ignored k = none := rfl

/-- In a transaction LDO gives its bytes. -/
@[simp] theorem ldoOut_active (t : Transaction) (k : Nat) : ldoOut (.active t) k = some (ldoByte t k) := rfl

/-- From byte 2 on LDO gives the reply, and 0x00 past it. -/
@[simp] theorem ldoByte_reply (t : Transaction) (k : Nat) : ldoByte t (k + 2) = t.reply.getD k 0 := rfl

/-- The first two bytes of LDO are the two bytes of the status word. -/
theorem ldoByte_status {t : Transaction} {high low : Byte} (h : t.status = high ++ low) :
    ldoByte t 0 = high ∧ ldoByte t 1 = low := by
  constructor
  · show t.status.extractLsb' 8 8 = high
    rw [h]; ext i hi
    have := BitVec.getLsbD_append (x := high) (y := low) (i := 8 + i)
    simp_all
  · show t.status.extractLsb' 0 8 = low
    rw [h]; ext i hi
    have := BitVec.getLsbD_append (x := high) (y := low) (i := i)
    simp_all

/-- An effect that leaves the part as it is leaves the state as it is. -/
theorem onDevice_same {s : State} {f : Device → Device} (h : f s.toDevice = s.toDevice) : s.onDevice f = s := by
  cases s
  simp only [State.onDevice] at *
  simp_all

end Sys2Proof.Machine
end

