-- ==== Sys2Proof/Laws/Lists.lean ====
section
/-! SUPPORT. The small lemmas of the list helpers of Machine/Ops.lean, and of the views of the slot table and of the span lists that
are built on them. -/

namespace Sys2Proof.Machine

/-! ### modifyAt -/

@[simp] theorem modifyAt_length {α : Type} (f : α → α) (k : Nat) (l : List α) :
    (modifyAt f k l).length = l.length := by
  induction l generalizing k with
  | nil => cases k <;> rfl
  | cons x xs ih => cases k <;> simp [modifyAt, ih]

/-- The element at the place that is changed. -/
theorem modifyAt_getElem?_self {α : Type} (f : α → α) (k : Nat) (l : List α) :
    (modifyAt f k l)[k]? = l[k]?.map f := by
  induction l generalizing k with
  | nil => cases k <;> rfl
  | cons x xs ih => cases k <;> simp [modifyAt, ih]

/-- An element at another place. -/
theorem modifyAt_getElem?_ne {α : Type} (f : α → α) {k j : Nat} (h : j ≠ k) (l : List α) :
    (modifyAt f k l)[j]? = l[j]? := by
  induction l generalizing k j with
  | nil => cases k <;> rfl
  | cons x xs ih =>
    cases k with
    | zero => cases j with
      | zero => exact absurd rfl h
      | succ j => rfl
    | succ k => cases j with
      | zero => rfl
      | succ j => simpa [modifyAt] using ih (k := k) (j := j) (by omega)

/-- A place beyond the end changes nothing. -/
theorem modifyAt_beyond {α : Type} (f : α → α) {k : Nat} {l : List α} (h : l.length ≤ k) : modifyAt f k l = l := by
  induction l generalizing k with
  | nil => cases k <;> rfl
  | cons x xs ih => cases k with
    | zero => simp at h
    | succ k => simp [modifyAt, ih (by simpa using h)]

/-- Every element of a changed list is an old one or the changed one. -/
theorem mem_modifyAt {α : Type} {f : α → α} {k : Nat} {l : List α} {x : α} (h : x ∈ modifyAt f k l) :
    x ∈ l ∨ ∃ y, l[k]? = some y ∧ x = f y := by
  induction l generalizing k with
  | nil => cases k <;> simp [modifyAt] at h
  | cons y ys ih => cases k with
    | zero =>
      rcases List.mem_cons.1 h with rfl | h
      · exact .inr ⟨y, rfl, rfl⟩
      · exact .inl (List.mem_cons_of_mem _ h)
    | succ k =>
      rcases List.mem_cons.1 h with rfl | h
      · exact .inl List.mem_cons_self
      · rcases ih h with h | h
        · exact .inl (List.mem_cons_of_mem _ h)
        · exact .inr (by simpa using h)

/-! ### mapFrom and placesOf -/

@[simp] theorem mapFrom_length {α : Type} (f : Nat → α → α) (k : Nat) (l : List α) :
    (mapFrom f k l).length = l.length := by
  induction l generalizing k with
  | nil => rfl
  | cons x xs ih => simp [mapFrom, ih]

/-- The element at a place. -/
theorem mapFrom_getElem? {α : Type} (f : Nat → α → α) (k j : Nat) (l : List α) :
    (mapFrom f k l)[j]? = l[j]?.map (f (k + j)) := by
  induction l generalizing k j with
  | nil => rfl
  | cons x xs ih =>
    cases j with
    | zero => rfl
    | succ j =>
      have h : k + 1 + j = k + (j + 1) := by omega
      simp [mapFrom, ih, h]

/-- The places of a list's elements that meet a test. -/
theorem mem_placesOf {α : Type} {p : α → Bool} {k i : Nat} {l : List α} :
    i ∈ placesOf p k l ↔ ∃ x, k ≤ i ∧ l[i - k]? = some x ∧ p x = true := by
  induction l generalizing k with
  | nil => simp [placesOf]
  | cons y ys ih =>
    have key : i ∈ placesOf p (k + 1) ys ↔ ∃ x, k + 1 ≤ i ∧ (y :: ys)[i - k]? = some x ∧ p x = true := by
      rw [ih]
      constructor
      · rintro ⟨x, h1, h2, h3⟩
        refine ⟨x, h1, ?_, h3⟩
        have : i - k = (i - (k + 1)) + 1 := by omega
        rw [this]; simpa using h2
      · rintro ⟨x, h1, h2, h3⟩
        refine ⟨x, h1, ?_, h3⟩
        have : i - k = (i - (k + 1)) + 1 := by omega
        rw [this] at h2; simpa using h2
    by_cases hp : p y = true
    · simp only [placesOf, hp, if_true, List.mem_cons, key]
      constructor
      · rintro (rfl | ⟨x, h1, h2, h3⟩)
        · exact ⟨y, le_refl _, by simp, hp⟩
        · exact ⟨x, by omega, h2, h3⟩
      · rintro ⟨x, h1, h2, h3⟩
        rcases Nat.eq_or_lt_of_le h1 with h | h
        · exact .inl h.symm
        · exact .inr ⟨x, h, h2, h3⟩
    · have hf : p y = false := by simpa using hp
      simp only [placesOf, hf, Bool.false_eq_true, if_false, key]
      constructor
      · rintro ⟨x, h1, h2, h3⟩; exact ⟨x, by omega, h2, h3⟩
      · rintro ⟨x, h1, h2, h3⟩
        rcases Nat.eq_or_lt_of_le h1 with h | h
        · subst h; simp at h2; subst h2; exact absurd h3 hp
        · exact ⟨x, h, h2, h3⟩

/-! ### The slot table -/

/-- A slot's entry after a change of its own. -/
theorem slotAt_modifySlot_self (f : SlotEntry → SlotEntry) (d : Device) {s : Nat} (h : s < d.ring.slots.length) :
    slotAt (modifySlot s f d) s = f (slotAt d s) := by
  simp [slotAt, List.getD_eq_getElem?_getD, modifyAt_getElem?_self, List.getElem?_eq_getElem h]

/-- Another slot's entry. -/
theorem slotAt_modifySlot_ne (f : SlotEntry → SlotEntry) (d : Device) {s t : Nat} (h : t ≠ s) :
    slotAt (modifySlot s f d) t = slotAt d t := by
  simp [slotAt, List.getD_eq_getElem?_getD, modifyAt_getElem?_ne f h]

/-- A slot beyond the table reads as EMPTY. -/
theorem slotAt_beyond (d : Device) {s : Nat} (h : d.ring.slots.length ≤ s) : slotAt d s = .empty := by
  simp [slotAt, List.getD_eq_getElem?_getD, List.getElem?_eq_none h]

/-- A slot that is not EMPTY stands in the table. -/
theorem slot_lt_of_state {d : Device} {s : Nat} (h : (slotAt d s).state ≠ .empty) : s < d.ring.slots.length := by
  by_contra hn
  exact h (by rw [slotAt_beyond d (by omega)]; rfl)

/-! ### The span lists -/

/-- A slot's list after it has been put. -/
theorem spansOf_setSpans_self (l : List Span) (d : Device) {s : Nat} (h : s < d.map.spans.length) :
    spansOf (setSpans s l d) s = l := by
  simp [spansOf, List.getD_eq_getElem?_getD, modifyAt_getElem?_self, List.getElem?_eq_getElem h]

/-- Another slot's list. -/
theorem spansOf_setSpans_ne (l : List Span) (d : Device) {s t : Nat} (h : t ≠ s) :
    spansOf (setSpans s l d) t = spansOf d t := by
  simp [spansOf, List.getD_eq_getElem?_getD, modifyAt_getElem?_ne _ h]

/-- A slot's list is one of the map's, or empty. -/
theorem spansOf_mem_or_nil (d : Device) (s : Nat) : spansOf d s ∈ d.map.spans ∨ spansOf d s = [] := by
  by_cases h : s < d.map.spans.length
  · exact .inl (by simp [spansOf, List.getD_eq_getElem?_getD, List.getElem?_eq_getElem h])
  · exact .inr (by simp [spansOf, List.getD_eq_getElem?_getD, List.getElem?_eq_none (Nat.le_of_not_lt h)])

/-- The records in use after a list has been put. -/
theorem usedRecords_setSpans (l : List Span) (d : Device) {s : Nat} (h : s < d.map.spans.length) :
    usedRecords (setSpans s l d).map + (spansOf d s).length = usedRecords d.map + l.length := by
  have key : ∀ (L : List (List Span)) (k : Nat) (hk : k < L.length),
      ((modifyAt (fun _ => l) k L).map List.length).sum + (L.getD k []).length
        = (L.map List.length).sum + l.length := by
    intro L
    induction L with
    | nil => intro k hk; simp at hk
    | cons x xs ih =>
      intro k hk
      cases k with
      | zero => simp [modifyAt]; omega
      | succ k =>
        have := ih k (by simpa using hk)
        simp [modifyAt] at this ⊢; omega
  exact key d.map.spans s h

/-- What holds for every list of the map, and for the list that is put, holds for every list after it. -/
theorem setSpans_forall {P : List Span → Prop} {d : Device} {s : Nat} {l : List Span} (h : ∀ x ∈ d.map.spans, P x) (hl : P l) :
    ∀ x ∈ (setSpans s l d).map.spans, P x := by
  intro x hx
  rcases mem_modifyAt hx with h1 | ⟨y, _, rfl⟩
  · exact h x h1
  · exact hl

end Sys2Proof.Machine
end

