-- ==== Sys2Proof/Laws/Step.lean ====
section
/-! SUPPORT. What one step can do, said once: the condition under which a command goes on and its effect on the part
(`exec_next`), and the two forms of a step (`step_next`). Proofs over all steps start here and never unfold `exec` or `step`. -/

namespace Sys2Proof.Machine

/-- The effect of a command that goes on. -/
def effect : Instr → Device → Device
  | .burnerTransferStart write addr blen => startTransfer write addr blen
  | .writeBeatAccepted data enables => acceptWrite data enables
  | .readBeatData data => returnBeat data
  | .memoryTransferComplete data => fun d =>
    match d.arbiter.onBus with
    | some m => completeTransfer m data d
    | none => d
  | .holdExpiry => fun d => if d.delivery.held.isSome then expireAndGrant d else d
  | .reset => resetPart
  | .transactionBegin => beginTransaction
  | .transactionEnd => endTransaction
  | .identify arg => clockRequest 0x01 arg [] (goodRequest identifyBytes)
  | .readSettings arg => clockRequest 0x02 arg [] (readSettings arg)
  | .writeSettings arg payload => clockRequest 0x03 arg payload (feedPayload .writeSettings payload)
  | .arm arg => clockRequest 0x04 arg [] armRequest
  | .endRun arg => clockRequest 0x05 arg [] endRunRequest
  | .readReport arg => clockRequest 0x06 arg [] readReport
  | .reportPop => popReport
  | .readCounters arg => clockRequest 0x07 arg [] (readCounters arg)
  | .readQuality arg => clockRequest 0x08 arg [] readQuality
  | .mapQuery arg => clockRequest 0x09 arg [] (queryMap arg)
  | .snapshotTaken => fillHolder
  | .mapFetch arg => clockRequest 0x0A arg [] fetchMap
  | .readAttention arg => clockRequest 0x0B arg [] readAttention
  | .clearAttention arg payload => clockRequest 0x0C arg payload (feedPayload .clearAttention payload)
  | .setAttentionEnable arg payload => clockRequest 0x0D arg payload (feedPayload .setAttentionEnable payload)
  | .unknownRequestCode code arg => clockRequest code arg [] badRequest

/-- The condition under which a command goes on. -/
def guard : Instr → Device → Prop
  | .burnerTransferStart _ addr blen, d => transferFits addr blen = true ∧ d.port.transfer = none
  | .writeBeatAccepted _ _, d => writeBeatDue d = true
  | .readBeatData _, d => readBeatDue d = true
  | .memoryTransferComplete data, d =>
    ∃ m, d.arbiter.onBus = some m ∧ beatsOutstanding m d = false ∧ data.length = fetchedBeats m
  | .transactionBegin, d => d.link.line = .high
  | .transactionEnd, d => d.link.line ≠ .high
  | .unknownRequestCode code _, _ => knownCode code = false
  | .holdExpiry, _ => True
  | .reset, _ => True
  | .identify _, _ => True
  | .readSettings _, _ => True
  | .writeSettings _ _, _ => True
  | .arm _, _ => True
  | .endRun _, _ => True
  | .readReport _, _ => True
  | .reportPop, _ => True
  | .readCounters _, _ => True
  | .readQuality _, _ => True
  | .mapQuery _, _ => True
  | .snapshotTaken, _ => True
  | .mapFetch _, _ => True
  | .readAttention _, _ => True
  | .clearAttention _ _, _ => True
  | .setAttentionEnable _ _, _ => True

/-- A command that goes on meets its condition and has its effect. -/
theorem exec_next {c : Instr} {s t : State} (h : exec c s = .next t) :
    guard c s.toDevice ∧ t = s.onDevice (effect c) := by
  cases c with
  | burnerTransferStart w a n =>
    simp only [exec, execBurnerTransferStart] at h
    split at h
    · cases h
    · split at h
      · cases h
      · cases h
        refine ⟨⟨by simpa using ‹¬(!transferFits a n) = true›, ?_⟩, rfl⟩
        simpa using ‹¬s.port.transfer.isSome = true›
  | writeBeatAccepted b e =>
    simp only [exec, execWriteBeatAccepted] at h
    split at h
    · cases h; exact ⟨‹_›, rfl⟩
    · cases h
  | readBeatData b =>
    simp only [exec, execReadBeatData] at h
    split at h
    · cases h; exact ⟨‹_›, rfl⟩
    · cases h
  | memoryTransferComplete l =>
    simp only [exec, execMemoryTransferComplete] at h
    split at h
    · cases h
    · rename_i m hm
      split at h
      · cases h
      · split at h
        · cases h
        · cases h
          refine ⟨⟨m, hm, by simpa using ‹¬beatsOutstanding m s.toDevice = true›, ?_⟩, ?_⟩
          · simpa using ‹¬l.length ≠ fetchedBeats m›
          · simp only [State.onDevice, effect, hm]
  | holdExpiry =>
    simp only [exec, execHoldExpiry] at h
    refine ⟨trivial, ?_⟩
    split at h <;> cases h <;> simp_all [State.onDevice, effect]
  | transactionBegin =>
    simp only [exec, execTransactionBegin] at h
    split at h <;> cases h
    exact ⟨‹_›, rfl⟩
  | transactionEnd =>
    simp only [exec, execTransactionEnd] at h
    split at h <;> cases h
    all_goals exact ⟨by simp_all [guard], rfl⟩
  | unknownRequestCode code arg =>
    simp only [exec, execUnknownRequestCode] at h
    split at h
    · cases h
    · cases h; exact ⟨by simpa [guard] using ‹¬knownCode code = true›, rfl⟩
  | _ => cases h; exact ⟨trivial, rfl⟩

/-- A command that meets its condition goes on. -/
theorem exec_of_guard {c : Instr} {s : State} (h : guard c s.toDevice) : exec c s = .next (s.onDevice (effect c)) := by
  cases c with
  | burnerTransferStart w a n =>
    obtain ⟨h1, h2⟩ := h
    simp [exec, execBurnerTransferStart, h1, h2, effect]
  | writeBeatAccepted b e =>
    simp only [guard] at h
    simp [exec, execWriteBeatAccepted, h, effect]
  | readBeatData b =>
    simp only [guard] at h
    simp [exec, execReadBeatData, h, effect]
  | memoryTransferComplete l =>
    obtain ⟨m, hm, h1, h2⟩ := h
    simp [exec, execMemoryTransferComplete, hm, h1, h2, State.onDevice, effect]
  | holdExpiry =>
    simp only [exec, execHoldExpiry]
    split <;> simp_all [State.onDevice, effect]
  | transactionBegin =>
    simp only [guard] at h
    simp [exec, execTransactionBegin, h, effect]
  | transactionEnd =>
    simp only [exec, execTransactionEnd]
    split
    · exact absurd ‹_› h
    · rfl
    · rfl
  | unknownRequestCode code arg =>
    simp only [guard] at h
    simp [exec, execUnknownRequestCode, h, effect]
  | _ => rfl

/-- A step is the tick of an idle part, or the effect of the command at the front. -/
theorem step_next {s t : State} (h : step s = .next t) :
    (s.pending = [] ∧ t = s.onDevice tick) ∨
      ∃ c rest, s.pending = c :: rest ∧ guard c s.toDevice
        ∧ t = { toDevice := effect c s.toDevice, pending := rest } := by
  simp only [step] at h
  split at h
  · cases h; exact .inl ⟨‹_›, rfl⟩
  · rename_i c rest hp
    obtain ⟨h1, h2⟩ := exec_next h
    exact .inr ⟨c, rest, hp, h1, h2⟩

/-- An invariant of the part is kept by every step if the tick and every command's effect keep it. -/
theorem kept_of_effects {inv : Device → Prop} (ht : ∀ d, inv d → inv (tick d))
    (hc : ∀ c d, inv d → guard c d → inv (effect c d)) :
    ∀ s t : State, inv s.toDevice → step s = .next t → inv t.toDevice := by
  intro s t hi hs
  rcases step_next hs with ⟨_, rfl⟩ | ⟨c, rest, _, hg, rfl⟩
  · exact ht _ hi
  · exact hc c _ hi hg

end Sys2Proof.Machine
end

