-- ==== Sys2Proof/Laws/Track.lean ====
section
/-! SUPPORT. What the marking of a slot STALE, an abort of the job and a lock loss do, said once in the terms of `Sys2Proof.Safety`, and
when a write beat does nothing. A proof about a stray write or about a begun slot cites these and unfolds neither `markStale` nor `abortJob`. -/

namespace Sys2Proof.Machine

/-- An abort drops the job and its claim; its transfer on the memory side completes by itself (R117 to R119). -/
theorem abortJob_eq (d : Device) : abortJob d = jobAborted d := by
  unfold abortJob jobAborted
  congr 1

/-- With no job on slot k there is nothing to abort (R117). -/
theorem abortJobOf_other {d : Device} {k : Nat} (h : ∀ j, d.engine.job = some j → j.slot ≠ k) : abortJobOf k d = d := by
  unfold abortJobOf
  split
  · next j hj => simp [h j hj]
  · rfl

/-- With a job on slot k it is aborted (R117). -/
theorem abortJobOf_own {d : Device} {j : Job} (h : d.engine.job = some j) : abortJobOf j.slot d = jobAborted d := by
  simp [abortJobOf, h, abortJob_eq]

/-- A slot that is EMPTY or STALE already is not marked again (R33). -/
theorem markStale_spoiled {d : Device} {k : Nat} (h : (slotAt d k).state = .empty ∨ (slotAt d k).flags.stale = true) :
    markStale k d = d := by
  simp [markStale, h]

/-- The counts, the cause and LOCK_HELD of a lock loss (R24, R32). -/
theorem loseLock_seeking (d : Device) : loseLock (setLock .seeking d) = lockLost d := by
  rfl

/-- A write beat in OFF is outside the ring (R18). -/
theorem takeWriteBeat_off {d : Device} (first outside : Bool) (a : Nat) (b : Beat) (e : Enables) (h : d.control.run = .off) :
    takeWriteBeat first outside a b e d = d := by
  simp only [takeWriteBeat, h]
  split <;> rfl

/-- In ARMED a beat of a write that is outside the ring, and any beat but a write's first, does nothing more (R4, R23, R166). -/
theorem takeWriteBeat_armed {d : Device} {first outside : Bool} (a : Nat) (b : Beat) (e : Enables) (h : d.control.run = .armed)
    (ho : outside = true ∨ first = false) : takeWriteBeat first outside a b e d = d := by
  simp only [takeWriteBeat, h]
  split
  · rfl
  · rfl
  · rcases ho with ho | ho <;> simp [ho]

end Sys2Proof.Machine
end

