-- ==== Sys2Proof/Tests/Slice0.lean ====
section
/-! SUPPORT. The model's own tests: the checks of WellFormed, the data sheet's worked values, one or two steps per command, and
for every obligation with hypotheses a concrete state and operands that meet them (`witness_<its name>`). -/

namespace Sys2Proof.Tests

open Sys2Proof.Machine

/-! ### WellFormed and the table's words -/

/-- A transfer address is a multiple of 4 (00_scope.md "Addresses"). -/
theorem test_wellFormed_refuses_misaligned : WellFormed (.burnerTransferStart true 2 0) = false := by decide

/-- A transfer stays in the 26-bit address space (00_scope.md "Addresses"). -/
theorem test_wellFormed_refuses_past_end : WellFormed (.burnerTransferStart false 67108860 1) = false := by decide

/-- The last beat of buffer memory is a transfer's last beat at most. -/
theorem test_wellFormed_takes_last_beat : WellFormed (.burnerTransferStart false 67108860 0) = true := by decide

/-- A memory-side transfer has at most 16 beats (section 1.7). -/
theorem test_wellFormed_refuses_long_fetch :
    WellFormed (.memoryTransferComplete (List.replicate 17 Beat.zero)) = false := by decide

/-- Code 0x0D is SET ATTENTION ENABLE (section 9.6), no unknown code. -/
theorem test_wellFormed_refuses_known_code : WellFormed (.unknownRequestCode 0x0D 0) = false := by decide

/-- No row of spec/opcode_table.json has bits, so no word spells a command. -/
theorem test_no_word_decodes : decodeTableWord 16 0x0101 = none := by decide

/-! ### Worked values of the data sheet -/

/-- The geometry of section 1.6. -/
def geometry16 : Geometry :=
  { base := 1048576, slots := 4, slotPitch := 888832, lines := 608, samples := 720, linePitch := 1456,
    scan := .interleaved, order := .lowFirst, lo := 64, hi := 940 }

/-- Section 2.1: samples 50 and 51 of line 0 of slot 3. -/
theorem test_naming_sample : nameAddress geometry16 3715172 = .line 3 0 100 := by decide

/-- Section 2.1: trailer bytes 4 to 7 of line 9. -/
theorem test_naming_tail : nameAddress geometry16 3729620 = .line 3 9 1444 := by decide

/-- Section 2.1: slot slack. -/
theorem test_naming_slack : nameAddress geometry16 4600336 = .slack 3 := by decide

/-- Section 2.1: the first address past the ring. -/
theorem test_naming_outside : nameAddress geometry16 4603904 = .outside := by decide

/-- Section 5.14, line 20, first column: S = 540 and, with T = 530 at w = 12, 533. -/
theorem test_blend_line20 : interpolate 2 1 500 620 = 540 ∧ blend 12 530 540 = 533 := by decide

/-- Section 5.14, line 22, second column: S = 995, and 961 is written as 940. -/
theorem test_blend_clamped : interpolate 2 2 940 (sampleValue 1100) = 995 ∧ clampSample geometry16 (blend 12 950 995) = 940 := by
  decide

/-- Section 5.14: M = 12 gives w = 12 between 4 and 40, and M = 50 gives 0. -/
theorem test_weights : motionFigure 17280 2 720 = some 12 ∧ weightOf 4 40 8 (some 12) = 12 ∧ weightOf 4 40 8 (some 50) = 0 := by
  decide

/-- Section 5.14: the trailer bytes 0 to 3 of line 22, tag 3, grade 2. -/
theorem test_engine_head : engineHead .lowFirst 22 3 2 = [0x16, 0x00, 0x00, 0x32] := by decide

/-- Section 8.7: In = 72 and Q = 4. -/
theorem test_worked_report :
    impairment { g1 := 1, g2 := 2, g3 := 3, g4 := 4, g5 := 6, g6 := 12 }
        { g1 := 2, g2 := 4, g3 := 3, g4 := 0, g5 := 2, g6 := 1 } 608 = 72
      ∧ qualityIndex RepairSettings.default.thresholds 72 .complete = 4 := by decide

/-- Section 8.8, reports 4, 5 and 9: the recovery frames setting is 3. -/
theorem test_worked_recovery :
    qualityAfter 3 4 1 5 = (4, 2) ∧ qualityAfter 3 4 2 7 = (5, 0) ∧ qualityAfter 3 0 2 4 = (1, 0) := by decide

/-- The 24 one-line spans of section 4.5. -/
def worn : List Span := (List.range 24).map fun m => newSpan (5 + 20 * m) { Causes.nil with deck := true }

/-- Section 4.5, event 1: line 476 stretches [465] to [465..476], ten lines absorbed. -/
theorem test_coarsening_stretches :
    ((recordLine worn true 476 { Causes.nil with check := true } true).spans.getLast?.map fun p => (p.first, p.last, p.absorbed))
      = some (465, 476, 10) := by decide

/-- Section 4.5, event 5: of equal gaps the one nearest line 0 is merged, and the record taken for line 600. -/
theorem test_coarsening_merges_top :
    ((recordLine worn true 600 onlyTorn true).spans.head?.map fun p => (p.first, p.last, p.absorbed)) = some (5, 25, 19)
      ∧ ((recordLine worn true 600 onlyTorn true).spans.getLast?.map fun p => p.first) = some 600 := by decide

/-- A job at the write-back of line 10 of slot 3, next address and end as given (section 6.3). -/
def lineJob (next stop : Nat) : Job :=
  { phase := .writeBack, slot := 3, first := 10, last := 10, reach := 4, tStill := 4, tMove := 40, wDefault := 8, fields := [],
    gather := [], next := next, stop := stop, fetched := [], grade := 1, head := [], lanes := [] }

/-- Section 6.3: the write-back of line 10 of slot 3 begins with 8 beats, goes on with 16, and ends with 2. -/
theorem test_transfer_cut :
    (engineTransfer (lineJob 3729632 3731080)).beats = 8 ∧ (engineTransfer (lineJob 3729664 3731080)).beats = 16
      ∧ (engineTransfer (lineJob 3731072 3731080)).beats = 2 := by decide

/-! ### Small states -/

/-- A small valid geometry: 4 slots of 8 lines of 16 samples from address 4096. -/
def small : Geometry :=
  { base := 4096, slots := 4, slotPitch := 4096, lines := 8, samples := 16, linePitch := 48, scan := .progressive,
    order := .lowFirst, lo := 64, hi := 940 }

/-- The staged copy with that geometry and the default repair fields. -/
def smallStaged : Staged :=
  { Staged.default with base := 4096, slots := 4, slotPitch := 4096, lines := 8, samples := 16, linePitch := 48, lo := 64, hi := 940 }

/-- OFF with the small geometry staged. -/
def offState : State :=
  { State.reset with control := { State.reset.control with staged := smallStaged, settingsPending := true } }

/-- ARMED with the small geometry. -/
def armedState : State :=
  { State.reset with
    control := { State.reset.control with run := .armed, staged := smallStaged, geometry := small }
    ring := .start 4, map := .start 4 }

/-- An entry of the slot table with clear flags. -/
def entry (state : SlotState) (frame : BitVec 32) : SlotEntry :=
  { state := state, frame := frame, flags := .clear, uncheckedFrom := 0 }

/-- A drain record of slot 0 with a budget of 10 and an allowance of 100: lines 0 and 1 delivered, line 2 held. -/
def heldRecord : DrainRecord :=
  { frame := 4, slot := 0, endKind := .stillOpen, holdBudget := 10, holdAllowance := 100, allowanceLeft := 100, stationTag := 3,
    reach := 4, position := some 1,
    lines := [.clean, .clean, .held, .unreached, .unreached, .unreached, .unreached, .unreached], holdCount := 1,
    holdTime := 0, signature := 0xFFFFFFFF, unverified := 0, redirectedTally := 0, damagedTally := 0, inFlight := 0 }

/-- The engine's job for the span [2..3] of slot 0, line 2 being written back. -/
def heldJob : Job :=
  { phase := .writeBack, slot := 0, first := 2, last := 3, reach := 4, tStill := 4, tMove := 40, wDefault := 8, fields := [],
    gather := [], next := 4192, stop := 4232, fetched := [], grade := 1, head := [], lanes := List.replicate 40 (some 0) }

/-- The burner transfer of 10 beats at line 2 of slot 0. -/
def lineTwo (write : Bool) (mode : TransferMode) : BurnerTransfer :=
  { write := write, addr := 4192, beats := 10, next := 0, mode := mode, written := [], unchanged := false,
    outside := false, holdAsked := false, inPart := [] }

/-- RUNNING, slot 2 filling, slot 0 draining; the burner's read of line 2 of slot 0 is held for the engine's write-back. -/
def heldState : State :=
  { armedState with
    control := { armedState.control with run := .running }
    ring := { slots := [entry .draining 4, entry .filled 5, entry .filling 6, entry .drained 3], lock := some .locked,
              lockHeld := true, fillSlot := some 2, fillOpen := true, draining := some 0, nextFrame := 7, drainFrame := 4 }
    checker := .start 8
    map := { spans := [[{ newSpan 2 onlyTorn with last := 3, state := .active }], [{ newSpan 5 onlyTorn with state := .queued }],
                       [], []] }
    engine := { order := [⟨1, 5⟩], job := some heldJob, claiming := false }
    arbiter := { onBus := some (engineTransfer heldJob), passOver := false }
    delivery := { record := some heldRecord, closing := none, held := some { line := 2, ticks := 3 }, context := none,
                  countedHead := none }
    port := { transfer := some (lineTwo false .held), brd := Beat.zero } }

/-- A transaction before its request. -/
def asking : Transaction := { status := 0, lockFell := false, phase := .awaiting, reply := [] }

/-- A state with that transaction on the link. -/
def talk (s : State) : State := { s with link := { s.link with line := .active asking } }

/-- The transaction stands before its request. -/
theorem talk_awaits (s : State) : awaitsRequest (talk s) asking := ⟨rfl, rfl⟩

/-- A state with a transaction in another phase. -/
def talkIn (s : State) (phase : TransactionPhase) : State :=
  { s with link := { s.link with line := .active { asking with phase := phase } } }

/-- A burner transfer on the memory side. -/
def onBusState (s : State) (u : BurnerTransfer) : State :=
  { s with port := { s.port with transfer := some u }, arbiter := { onBus := some (forwarded u), passOver := false } }

/-- RUNNING and LOCKED with no fill open after slot 1, nothing on the bus and an engine with nothing to do. -/
def calmState : State :=
  { heldState with
    ring := { heldState.ring with slots := [entry .drained 0, entry .filled 1, entry .empty 0, entry .empty 0],
                                  fillSlot := some 1, fillOpen := false, draining := none, nextFrame := 2 }
    map := { spans := [[], [], [], []] }
    engine := .start, delivery := .start, arbiter := { onBus := none, passOver := false }
    port := { transfer := none, brd := Beat.zero } }

/-- The held state with a closing record of n beats on their way, and those beats on the memory side. -/
def closingState (tags : List (Option BeatTag)) (n : Nat) : State :=
  onBusState { heldState with delivery := { heldState.delivery with
    closing := some { heldRecord with endKind := .complete, inFlight := n } } } { lineTwo false .forwarding with inPart := tags }

/-- A full set of byte enables. -/
def full : Enables := ⟨true, true, true, true⟩

/-- What a next outcome holds of its state; nothing for a stop. -/
def ifNext {α : Type} (f : State → α) : Host.Outcome State Fault Refusal → Option α
  | .next s => some (f s)
  | .fault _ => none
  | .refused _ => none

/-! ### One step per command -/

/-- R1, R4: a write begun with the memory side free is on it at once, as one transfer. -/
theorem test_burnerTransferStart :
    ifNext (fun t => t.arbiter.onBus.map fun m => (m.addr, m.beats, m.write)) (exec (.burnerTransferStart true 4096 9) armedState)
      = some (some (4096, 10, true)) := by decide

/-- R23: the write at the base of slot 1 starts the run with frame 0 there. -/
theorem test_writeBeatAccepted :
    ifNext (fun t => (t.control.run, t.ring.fillSlot, t.ring.nextFrame.toNat))
        (exec (.writeBeatAccepted Beat.zero full) (onBusState armedState { lineTwo true .forwarding with addr := 8192 }))
      = some (.running, some 1, 1) := by decide

/-- R4, R166: a write begun in OFF is outside the ring, and its first beat at the base of slot 1, accepted after an ARM, starts no run;
END RUN in RUNNING puts the rest of a write outside, and in ARMED it does not. -/
theorem test_write_begun_in_off :
    ifNext (fun t => t.port.transfer.map BurnerTransfer.outside) (exec (.burnerTransferStart true 8192 9) offState)
      = some (some true) ∧
    ifNext (fun t => (t.control.run, t.port.transfer.map BurnerTransfer.next)) (exec (.writeBeatAccepted Beat.zero full)
        (onBusState armedState { lineTwo true .forwarding with addr := 8192, outside := true })) = some (.armed, some 1) ∧
    ifNext (fun t => t.port.transfer.map BurnerTransfer.outside) (exec (.endRun 0) (talk (onBusState heldState (lineTwo true .forwarding))))
      = some (some true) ∧
    ifNext (fun t => t.port.transfer.map BurnerTransfer.outside) (exec (.endRun 0) (talk (onBusState armedState (lineTwo true .forwarding))))
      = some (some false) := by decide

/-- R3: in OFF the returned beat reaches the burner as it is. -/
theorem test_readBeatData :
    ifNext (fun t => (t.port.brd, t.port.transfer.map BurnerTransfer.next))
        (exec (.readBeatData ⟨1, 2, 3, 4⟩) (onBusState offState { lineTwo false .forwarding with inPart := [none] }))
      = some (⟨1, 2, 3, 4⟩, some 1) := by decide

/-- R1, R13: with every beat delivered the port is IDLE and the memory side FREE. -/
theorem test_memoryTransferComplete :
    ifNext (fun t => (t.port.transfer, t.arbiter.onBus))
        (exec (.memoryTransferComplete []) (onBusState offState { lineTwo true .forwarding with next := 10 }))
      = some (none, none) := by decide

/-- R134, R135, R128 row 5: frame 3 in slot 3 is the reference of frame 4, so the held line is redirected to it; 10 is charged. -/
theorem test_holdExpiry :
    ifNext (fun t => t.delivery.record.map fun r => (entryOf r 2, r.holdTime, r.allowanceLeft)) (exec .holdExpiry heldState)
      = some (some (.redirected 3 2, 10, 90)) := by decide

/-- R133, R135: the hold that the write-back's completion ends is charged its 3 ticks, and the line is HANDLED. -/
theorem test_hold_released :
    ifNext (fun t => t.delivery.record.map fun r => (entryOf r 2, r.holdTime))
        (exec (.memoryTransferComplete [])
          { heldState with engine := { heldState.engine with job := some { heldJob with next := 4224 } },
                           arbiter := { onBus := some (engineTransfer { heldJob with next := 4224 }), passOver := false } })
      = some (some (.handled, 3)) := by decide

/-- R179: reset in a run leaves the part OFF with the transfer on the memory side still there. -/
theorem test_reset :
    ifNext (fun t => (t.control.run, t.arbiter.onBus.map MemTransfer.orphan)) (exec .reset heldState)
      = some (.off, some true) := by decide

/-- R170, section 10.2: RUNNING, LOCK, LOCK_HELD and ENGINE_ACTIVE. -/
theorem test_transactionBegin :
    ifNext (fun t => t.link.line) (exec .transactionBegin heldState)
      = some (.active { status := 0xB100, lockFell := false, phase := .awaiting, reply := [] }) := by decide

/-- R171: LSEL rises one byte short of a CLEAR ATTENTION payload. -/
theorem test_transactionEnd :
    ifNext (fun t => (t.link.line, t.link.requestBad))
        (exec .transactionEnd (talkIn offState (.collecting .clearAttention [0xFF]))) = some (.high, true) := by decide

/-- Section 10.5: vendor code, part code, revision, 1024 records. -/
theorem test_identify :
    ifNext (fun t => match t.link.line with
      | .active x => x.reply.take 5
      | _ => []) (exec (.identify 0x77) (talk offState)) = some [0xA5, 0x31, 0x01, 0x04, 0x00] := by decide

/-- R171: argument 2 is a bad request. -/
theorem test_readSettings : ifNext (fun t => t.link.requestBad) (exec (.readSettings 2) (talk offState)) = some true := by decide

/-- R169: a payload of 55 bytes is not stored. -/
theorem test_writeSettings :
    ifNext (fun t => (t.control.staged == smallStaged, t.control.settingsPending))
        (exec (.writeSettings 0 (List.replicate 55 0xFF)) (talk State.reset)) = some (false, false) := by decide

/-- R165, R166: the small geometry is accepted. -/
theorem test_arm : ifNext (fun t => (t.control.run, t.ring.slots.length)) (exec (.arm 0) (talk offState)) = some (.armed, 4) := by
  decide

/-- R167: the all-zero geometry fails the first check. -/
theorem test_arm_refused :
    ifNext (fun t => (t.control.run, t.control.refusal, t.link.causes)) (exec (.arm 0) (talk State.reset)) = some (.off, 1, 8) := by
  decide

/-- R168, R147: END RUN with slot 0 DRAINING makes one PARTIAL report. -/
theorem test_endRun :
    ifNext (fun t => (t.control.run, t.reports.queue.map FrameReport.endKind)) (exec (.endRun 0) (talk heldState))
      = some (.off, [.cutOff]) := by decide

/-- A frame report with every field 0 but its frame. -/
def someReport : FrameReport :=
  { frame := 4, slot := 0, endKind := .complete, drainStarted := true, flags := .clear, grades := ⟨0, 0, 0, 0, 0, 0⟩, damaged := 0,
    absorbed := 0, impairment := 0, quality := 7, holdCount := 0, holdTime := 0, allowanceLeft := 0, signature := 0,
    unverified := 0, gap := 0 }

/-- A state with n records in the report queue. -/
def queued (n : Nat) (s : State) : State := { s with reports := { s.reports with queue := List.replicate n someReport } }

/-- Section 10.4: byte 0 of a valid COMPLETE record of quality 7 whose drain started. -/
theorem test_readReport :
    ifNext (fun t => match t.link.line with
      | .active x => x.reply.head?
      | _ => none) (exec (.readReport 0) (talk (queued 1 offState))) = some (some 0x73) := by decide

/-- R174: the pop takes the record that was returned. -/
theorem test_reportPop :
    ifNext (fun t => t.reports.queue.length) (exec .reportPop (talkIn (queued 2 offState) .reporting)) = some 1 := by decide

/-- R158: with argument 1 the counters are clear after the snapshot. -/
theorem test_readCounters :
    ifNext (fun t => t.reports.counters.linesLost)
        (exec (.readCounters 1)
          (talk { offState with reports := { offState.reports with counters := { Counters.zero with linesLost := 7 } } }))
      = some 0 := by decide

/-- R153: WQ is 7 again after the reply. -/
theorem test_readQuality :
    ifNext (fun t => t.reports.worstQuality)
        (exec (.readQuality 0) (talk { offState with reports := { offState.reports with worstQuality := 2 } })) = some 7 := by decide

/-- R79: a query for a slot of the ring puts the holder into GATHERING. -/
theorem test_mapQuery : ifNext (fun t => t.link.holder) (exec (.mapQuery 3) (talk heldState)) = some (.gathering 3) := by decide

/-- R79, R80, R64: the snapshot of slot 0: one span, 1022 records free. -/
theorem test_snapshotTaken :
    ifNext (fun t => match t.link.holder with
      | .ready n => some (n.state, n.spans.length, n.free)
      | _ => none)
        (exec .snapshotTaken { heldState with link := { heldState.link with holder := .gathering 0 } })
      = some (some (.draining, 1, 1022)) := by decide

/-- Section 10.6: the header of a READY snapshot of slot 0, DRAINING frame 4, one span, 1022 records free. -/
theorem test_mapFetch :
    ifNext (fun t => match t.link.line with
      | .active x => x.reply.take 12
      | _ => [])
        (exec (.mapFetch 0)
          (talk { heldState with link := { heldState.link with holder := .ready (takeSnapshot 0 heldState.toDevice) } }))
      = some [1, 0, 3, 0, 0, 0, 0, 4, 1, 0, 0x03, 0xFE] := by decide

/-- A state with two causes and one enable set. -/
def alert : State := { offState with link := { offState.link with causes := 0x201, enables := 0x200 } }

/-- Section 10.5: the causes, then the enables, most significant byte first. -/
theorem test_readAttention :
    ifNext (fun t => match t.link.line with
      | .active x => x.reply
      | _ => []) (exec (.readAttention 0) (talk alert)) = some [0x02, 0x01, 0x02, 0x00] := by decide

/-- R177, R178: clearing bit 9 leaves bit 0, whose enable is clear, so ATN is released. -/
theorem test_clearAttention :
    ifNext (fun t => (t.link.causes, atnAsserted t.toDevice)) (exec (.clearAttention 0 [0x02, 0x00]) (talk alert))
      = some (1, false) := by decide

/-- R177, R178: enabling bit 0 keeps ATN low. -/
theorem test_setAttentionEnable :
    ifNext (fun t => (t.link.enables, atnAsserted t.toDevice)) (exec (.setAttentionEnable 0 [0x00, 0x01]) (talk alert))
      = some (1, true) := by decide

/-- R171: code 0x0E is not in the table. -/
theorem test_unknownRequestCode :
    ifNext (fun t => t.link.requestBad) (exec (.unknownRequestCode 0x0E 0) (talk offState)) = some true := by decide

/-- The tick that makes the tick count the budget expires the hold (R131, R134; notes/assumptions/5.md). -/
theorem test_tick :
    ifNext (fun t => t.delivery.held) (step heldState) = some (some { line := 2, ticks := 4 })
      ∧ ifNext (fun t => t.delivery.held)
          (step { heldState with delivery := { heldState.delivery with held := some { line := 2, ticks := 9 } } }) = some none := by
  decide

/-- The engine's job for the span [5..5] of slot 1, its last fetch, line 4 of that slot, in hand. -/
def lastFetch : Job :=
  { heldJob with phase := .gather, slot := 1, first := 5, last := 5, next := 8384, stop := 8416, lanes := [],
                 gather := [{ role := .boundaryAbove, field := 0, slot := 1, line := 4 }] }

/-- R109, R110: the gather's last fetch completes with the one line of the span reached, so the line is skipped: r is past it. -/
theorem test_gather_ends_reached :
    ifNext (fun t => (t.map.spans.getD 1 []).map fun p => (p.state, p.progress))
        (exec (.memoryTransferComplete (List.replicate 8 Beat.zero))
          { calmState with
            ring := { calmState.ring with slots := [entry .drained 4, entry .drained 5, entry .empty 0, entry .empty 0] }
            map := { spans := [[], [{ newSpan 5 onlyTorn with state := .active }], [], []] }
            engine := { order := [], job := some lastFetch, claiming := false }
            arbiter := { onBus := some (engineTransfer lastFetch), passOver := false } })
      = some [(.done, 6)] := by decide

/-- R139: the trailer bytes 4 to 7 beat of line 0, CLEAN, with no run before it, passes as stored and is counted. -/
theorem test_trailer_unverified :
    ifNext (fun t => (t.port.brd, t.delivery.record.map DrainRecord.unverified, t.reports.counters.trailersUnverified))
        (exec (.readBeatData ⟨1, 2, 3, 4⟩)
          (onBusState heldState { lineTwo false .forwarding with inPart := [some { line := 0, offset := 36 }] }))
      = some (⟨1, 2, 3, 4⟩, some 1, 1) := by decide

/-- R32, R118: a write into slot 0 while slot 2 is being filled marks it STALE, and its job is gone. -/
theorem test_lock_loss_aborts :
    ifNext (fun t => (t.ring.lock, (slotAt t.toDevice 0).flags.stale, (slotAt t.toDevice 2).flags.seek,
          t.engine.job.map Job.slot))
        (exec (.writeBeatAccepted Beat.zero full) (onBusState heldState { lineTwo true .forwarding with addr := 4192 }))
      = some (some .seeking, true, true, some 1) := by decide

/-- R169, R172, section 9.6: LDO over a READ SETTINGS with argument 2 is the status word and then 0x00; with LSEL high there is no
output. -/
theorem test_ldo :
    ifNext (fun t => (ldoOut t.link.line 0, ldoOut t.link.line 1, ldoOut t.link.line 2))
        (exec (.readSettings 2) { offState with link := { offState.link with line := .active { asking with status := 0xB100 } } })
      = some (some 0xB1, some 0x00, some 0x00)
      ∧ ldoOut offState.link.line 0 = none := by decide

/-! ### Witnesses -/

/-- A command that goes on, and one that a full queue of commands stands behind. -/
theorem witness_StepTakesFrontCommand : ∃ t, exec .transactionBegin { offState with pending := [.reset] } = .next t := ⟨_, rfl⟩

/-- The held state meets the bookkeeping of the memory side. -/
theorem heldState_bus : BusWf heldState.toDevice where
  forwarding := by intro t h hm; cases h; cases hm
  burner := by intro m h hm; cases h; cases hm
  free := by intro h; cases h
  claim := by intro h; cases h
  engine := by intro m h _ _; exact ⟨rfl, by decide⟩

/-- The held state meets the bookkeeping of holds. -/
theorem heldState_hold : HoldWf heldState.toDevice where
  record := by intro r h; cases h; exact ⟨rfl, rfl, rfl⟩
  closing := by intro r h; cases h
  formed := by intro t h _ _; exact rfl
  inRing := by intro t h _; cases h; rfl
  remains := by intro t h _; cases h; decide
  entry := by
    intro r i h he
    cases h
    match i, he with
    | 0, he => cases he
    | 1, he => cases he
    | 2, _ => exact ⟨_, rfl, rfl⟩
    | 3, he => cases he
    | 4, he => cases he
    | 5, he => cases he
    | 6, he => cases he
    | 7, he => cases he
    | n + 8, he => cases he
  held := by intro h hh; cases hh; exact ⟨_, _, rfl, rfl, by decide, by decide, rfl, by decide, .inl rfl⟩
  released := by intro h; cases h

/-- The held state's ring tracker fields agree. -/
theorem heldState_ring : RingWf heldState.toDevice where
  entries := by intro _; rfl
  idle := by intro h; exact absurd rfl h
  locked := by intro _; decide
  seeking := by intro h; cases h
  filled := by intro _; decide
  filling := by
    intro s h
    match s, h with
    | 0, h => cases h
    | 1, h => cases h
    | 2, _ => exact ⟨rfl, rfl⟩
    | 3, h => cases h
    | n + 4, h => cases h
  draining := by
    intro s
    match s with
    | 0 => exact ⟨fun _ => rfl, fun _ => rfl⟩
    | 1 => constructor <;> intro h <;> cases h
    | 2 => constructor <;> intro h <;> cases h
    | 3 => constructor <;> intro h <;> cases h
    | n + 4 => constructor <;> intro h <;> cases h
  record := rfl

/-- The small geometry is valid. -/
theorem small_valid : GeometryValid small := by constructor <;> decide

/-- The held state's settings and figures are in range. -/
theorem heldState_ranges : RangesWf heldState.toDevice :=
  ⟨⟨.inr small_valid, by constructor <;> decide, by decide⟩, by unfold ReportsWf; decide⟩

/-- The clauses of the tick: no hold; ticks 3 and 4 below the budget 10; ticks 9, one short of it. -/
theorem witness_IdleStepTicksTheHold :
    (offState.pending = [] ∧ offState.delivery.held = none) ∧
    (heldState.pending = [] ∧ BusWf heldState.toDevice ∧ heldState.delivery.held = some { line := 2, ticks := 3 }
      ∧ heldState.delivery.record = some heldRecord ∧ 8 + 1 < heldRecord.holdBudget ∧ heldRecord.holdBudget ≤ 9 + 1) :=
  ⟨⟨rfl, rfl⟩, rfl, heldState_bus, rfl, rfl, by decide, by decide⟩

/-- The cases of reset: a transfer on the memory side; none and no burner transfer; none and a waiting or held burner transfer. -/
theorem witness_ResetCommand :
    heldState.arbiter.onBus = some (engineTransfer heldJob) ∧
    (offState.arbiter.onBus = none ∧ offState.port.transfer = none) ∧
    (calmState.arbiter.onBus = none
      ∧ ({ calmState with port := { calmState.port with transfer := some (lineTwo true .waiting) } } : State).port.transfer
          = some (lineTwo true .waiting) ∧ (lineTwo true .waiting).mode ≠ .forwarding) := by
  decide

/-- A part with lists in order that steps on. -/
theorem witness_SpanListsStayInOrder : MapWf heldState.map ∧ ∃ t, step heldState = .next t :=
  ⟨by unfold MapWf SpanListWf; decide, _, rfl⟩

/-- A part in range that steps on. -/
theorem witness_RangesAreKept : RangesWf heldState.toDevice ∧ ∃ t, step heldState = .next t := ⟨heldState_ranges, _, rfl⟩

/-- A part with an engine transfer on the memory side that steps on. -/
theorem witness_MemorySideBookkeepingIsKept : BusWf heldState.toDevice ∧ ∃ t, step heldState = .next t :=
  ⟨heldState_bus, _, rfl⟩

/-- A part with a FILLING and a DRAINING slot that steps on. -/
theorem witness_RingBookkeepingIsKept : RingWf heldState.toDevice ∧ ∃ t, step heldState = .next t := ⟨heldState_ring, _, rfl⟩

/-- A part with a hold that steps on. -/
theorem witness_HoldBookkeepingIsKept : BusHoldWf heldState.toDevice ∧ ∃ t, step heldState = .next t :=
  ⟨⟨heldState_bus, heldState_hold⟩, _, rfl⟩

/-- A counter at its end, in a state from which HOLD_EXPIRY and the tick that ends the hold go on; and READ COUNTERS with the lowest
argument bit clear. -/
theorem witness_CountersNeverFall :
    ∃ s t u : State, moves (some .holdExpiry) s t ∧ moves none s u ∧ s.reports.counters.holdExpiries = 4294967295
      ∧ (∀ n ∈ counterList s.reports.counters, n ≤ 4294967295)
      ∧ (∀ arg, some (Instr.readCounters 2) = some (.readCounters arg) → arg.getLsbD 0 = false) :=
  ⟨{ heldState with
      reports := { heldState.reports with counters := { Counters.zero with holdExpiries := 4294967295 } }
      delivery := { heldState.delivery with held := some { line := 2, ticks := 9 } } }, _, _, rfl, ⟨rfl, rfl⟩,
    rfl, by decide, by intro arg h; cases h; decide⟩

/-- END RUN and an idle step are neither RESET nor ARM; an ARM outside OFF goes on too; HOLD_EXPIRY is no request, and no payload is
being clocked when END RUN is taken. -/
theorem witness_GeometryAndCausesStay :
    (∃ t, moves (some (.endRun 0)) (talk heldState) t) ∧ (∃ t, moves (some (.arm 0)) (talk heldState) t)
      ∧ (talk heldState).control.run ≠ .off ∧ ¬ collects (talk heldState) ∧ (∃ t, moves none heldState t)
      ∧ (∃ t, moves (some .holdExpiry) heldState t) ∧ isRequest .holdExpiry = false :=
  ⟨⟨_, rfl⟩, ⟨_, rfl⟩, by decide, (by rintro ⟨t, r, got, h, h'⟩; cases h; cases h'), ⟨_, rfl, rfl⟩, ⟨_, rfl⟩, rfl⟩

/-- LSEL high, with an empty and with a full report queue; an input request short of its payload, and a transaction before its
request; LSEL ignored; a reply byte and a place past the reply; an unknown code and a payload one byte short that are taken. -/
theorem witness_TransactionsBeginAndEnd :
    (offState.link.line = .high ∧ offState.reports.queue.length ≤ 32 ∧ (queued 32 offState).link.line = .high
      ∧ (queued 32 offState).reports.queue.length ≤ 32) ∧
    (collects (talkIn offState (.collecting .clearAttention [])) ∧ (talk offState).link.line ≠ .high ∧ ¬ collects (talk offState)) ∧
    ({ offState with link := { offState.link with line := .ignored } } : State).link.line = .ignored ∧
    (({ asking with status := 0xB100, reply := [7] } : Transaction).status = (0xB1 : Byte) ++ (0x00 : Byte)
      ∧ [(7 : Byte)][0]? = some 7 ∧ [(7 : Byte)].length ≤ 1) ∧
    (awaitsRequest (talk offState) asking ∧ (∃ t, exec (.unknownRequestCode 0x0E 0) (talk offState) = .next t)
      ∧ ∃ t, exec (.clearAttention 0 [0xFF]) (talk offState) = .next t) :=
  ⟨by decide, ⟨⟨_, _, _, rfl, rfl⟩, by decide, by rintro ⟨t, r, got, h, h'⟩; cases h; cases h'⟩, rfl, by decide,
    talk_awaits _, ⟨_, rfl⟩, _, rfl⟩

/-- Every event that cannot happen: a low and a high select line; codes 1 and 13; an address that is no multiple of 4 and a beat past
the end; a taken port; beats that no transfer has; completions of nothing, of an unfinished part and with a wrong length. -/
theorem witness_EventsThatCannotHappenStop :
    (talk offState).link.line ≠ .high ∧ offState.link.line = .high ∧ 1 ≤ (1 : Byte).toNat ∧ (13 : Byte).toNat ≤ 13 ∧
    ¬ ((2 : BitVec 26).toNat % 4 = 0) ∧ ¬ ((67108860 : BitVec 26).toNat + 4 * ((1 : BitVec 4).toNat + 1) ≤ 67108864) ∧
    ((67108860 : BitVec 26).toNat + 4 * ((0 : BitVec 4).toNat + 1) ≤ 67108864 ∧ heldState.port.transfer ≠ none) ∧
    offState.port.transfer = none ∧ (onBusState offState (lineTwo true .forwarding)).port.transfer ≠ none ∧
    offState.arbiter.onBus = none ∧
    ((forwarded (lineTwo true .forwarding)).byEngine = false ∧ (lineTwo true .forwarding).next < (lineTwo true .forwarding).beats) ∧
    ((engineTransfer heldJob).byEngine = true ∧ [Beat.zero].length ≠ if (engineTransfer heldJob).write then 0 else 8) := by
  decide

/-- A request with LSEL high, ignored, after the request; within a payload of 56 bytes of which 53 and of which 54 have come; and an
input request's own bytes within a payload of two. -/
theorem witness_RequestsActOnlyAtTheirMoment :
    isRequest (.identify 0) = true ∧ isRequest (.setAttentionEnable 0 [1]) = true ∧ offState.link.line = .high ∧
    ({ offState with link := { offState.link with line := .ignored } } : State).link.line = .ignored ∧
    (talkIn offState .taken).link.line = .active { asking with phase := .taken } ∧
    (talkIn offState (.collecting .writeSettings [])).link.line = .active { asking with phase := .collecting .writeSettings [] } ∧
    (List.replicate 53 (0 : Byte) ++ requestBytes (.identify 0)).length < payloadLength .writeSettings ∧
    payloadLength .writeSettings ≤ (List.replicate 54 (0 : Byte) ++ requestBytes (.identify 0)).length ∧
    payloadLength .clearAttention ≤ ([] ++ requestBytes (.setAttentionEnable 0 [1])).length := by decide

/-- A transaction before its request; codes 0x00, 0x0E and 0xFF. -/
theorem witness_IdentifyQualityAndUnknownCodes :
    awaitsRequest (talk offState) asking ∧ (0 : Byte).toNat = 0 ∧ 14 ≤ (14 : Byte).toNat ∧ 14 ≤ (255 : Byte).toNat :=
  ⟨talk_awaits _, by decide, by decide, by decide⟩

/-- Arguments 0, 1 and 2; a payload of 56 bytes, every field above its range. -/
theorem witness_SettingsReadBack :
    awaitsRequest (talk offState) asking ∧ (2 : Byte) ≠ 0 ∧ (2 : Byte) ≠ 1 ∧ (List.replicate 56 (0xFF : Byte)).length = 56 :=
  ⟨talk_awaits _, by decide, by decide, by simp⟩

/-- Payloads of 56 and of 55 bytes. -/
theorem witness_WriteSettingsStores :
    awaitsRequest (talk offState) asking ∧ 56 ≤ (List.replicate 56 (0 : Byte)).length ∧ (List.replicate 55 (0 : Byte)).length < 56 :=
  ⟨talk_awaits _, by simp, by simp⟩

/-- The small geometry staged in OFF. -/
theorem witness_ArmIsAccepted :
    awaitsRequest (talk offState) asking ∧ (talk offState).control.run = .off
      ∧ GeometryValid (stagedGeometry (talk offState).control.staged) :=
  ⟨talk_awaits _, rfl, small_valid⟩

/-- A staged geometry whose last check alone fails, LO being HI; and an ARM in a run. -/
theorem witness_ArmIsRefused :
    ∃ s : State, awaitsRequest s asking ∧ s.control.run = .off ∧ ¬ passesCheck (stagedGeometry s.control.staged) 8 ∧
      (∀ k, k < 8 → passesCheck (stagedGeometry s.control.staged) k) ∧ (talk heldState).control.run ≠ .off := by
  refine ⟨talk { offState with control := { offState.control with staged := { smallStaged with hi := 64 } } }, talk_awaits _, rfl,
    ?_, ?_, by decide⟩
  · rintro ⟨h, _⟩
    revert h
    decide
  · intro k hk
    match k, hk with
    | 0, _ => trivial
    | 1, _ => exact ⟨by decide, by decide⟩
    | 2, _ => exact ⟨by decide, by decide, by decide⟩
    | 3, _ => exact ⟨by decide, by decide, by decide⟩
    | 4, _ => exact ⟨by decide, by decide, by decide⟩
    | 5, _ => exact ⟨by decide, by decide⟩
    | 6, _ => exact rfl
    | 7, _ =>
      show _ ≤ _
      decide

/-- END RUN in OFF; with a hold and an engine's transfer in a run; with no record and a query GATHERING; with a closing record too; with
the memory side free and an idle, and a waiting, port. -/
theorem witness_EndRunEndsTheRun :
    awaitsRequest (talk heldState) asking ∧ (talk offState).control.run = .off ∧ (talk heldState).control.run ≠ .off ∧
    ((talk heldState).arbiter.onBus = some (engineTransfer heldJob) ∧ (talk heldState).delivery.record = some heldRecord
      ∧ (talk heldState).reports.queue.length + 2 ≤ 32) ∧
    ((talk calmState).control.run ≠ .off ∧ (talk calmState).delivery.record = none ∧ (talk calmState).delivery.closing = none
      ∧ (talk calmState).arbiter.onBus = none ∧ (talk calmState).port.transfer = none) ∧
    ({ talk calmState with link := { (talk calmState).link with holder := .gathering 3 } } : State).link.holder = .gathering 3 ∧
    (closingState [] 1).delivery.closing = some { heldRecord with endKind := .complete, inFlight := 1 } ∧
    (({ calmState with port := { calmState.port with transfer := some (lineTwo false .waiting) } } : State).port.transfer
        = some (lineTwo false .waiting) ∧ (lineTwo false .waiting).mode ≠ .forwarding) :=
  ⟨talk_awaits _, rfl, by decide, by decide, by decide, rfl, rfl, rfl, by decide⟩

/-- An empty queue, a queue of 32, a record being returned, and none. -/
theorem witness_ReportsAreReadAndPopped :
    awaitsRequest (talk offState) asking ∧ (talk offState).reports.queue = [] ∧
    (talk (queued 32 offState)).reports.queue = someReport :: List.replicate 31 someReport ∧
    (talkIn (queued 1 offState) .reporting).link.line = .active { asking with phase := .reporting } ∧
    (∀ t, offState.link.line = .active t → t.phase ≠ .reporting) :=
  ⟨talk_awaits _, rfl, rfl, rfl, by intro t h; cases h⟩

/-- A record of quality 7 that has ended. -/
theorem witness_ReportRecordLayout : someReport.quality ≤ 7 ∧ someReport.endKind ≠ .stillOpen := by decide

/-- A transaction before its request, counter 15, and both values of the lowest argument bit. -/
theorem witness_ReadCountersReplies :
    awaitsRequest (talk heldState) asking ∧ 15 < 16 ∧ (0xFE : Byte).getLsbD 0 = false ∧ (0x01 : Byte).getLsbD 0 = true :=
  ⟨talk_awaits _, by decide, by decide, by decide⟩

/-- The end kinds of both clauses. -/
theorem witness_ImpairmentAndQualityIndex : EndKind.overwritten = .overwritten ∧ EndKind.complete ≠ .overwritten := by decide

/-- RQ 7 with recovery frames 25: a lower, an equal, and at RQ 4 a higher quality one short of the recovery frames and at them. -/
theorem witness_RunQualityFollowsReports :
    3 < heldState.reports.runQuality ∧ 7 = heldState.reports.runQuality ∧
    ∃ d : Device, d.reports.runQuality < 5 ∧ d.reports.recovery + 1 < d.control.repair.recovery
      ∧ ∃ e : Device, e.reports.runQuality < 5 ∧ e.control.repair.recovery ≤ e.reports.recovery + 1 :=
  ⟨by decide, by decide,
    { heldState.toDevice with reports := { heldState.reports with runQuality := 4, recovery := 23 } }, by decide, by decide,
    { heldState.toDevice with reports := { heldState.reports with runQuality := 4, recovery := 24 } }, by decide, by decide⟩

/-- A queue of 31 and a full one. -/
theorem witness_QueueTakesOrDropsReports :
    (queued 31 offState).reports.queue.length < 32 ∧ 32 ≤ (queued 32 offState).reports.queue.length := by decide

/-- Slot 0 of the held state: a span of two lines, of which none is counted yet. -/
theorem witness_GradeCountsAddUp : SpanListWf (spansOf heldState.toDevice 0) ∧ (0 : Nat) ≤ 2 :=
  ⟨by unfold SpanListWf; decide, by decide⟩

/-- A snapshot of the slot of section 4.5. -/
def wornSnapshot : Snapshot := { slot := 2, state := .filled, flags := .clear, frame := 0, spans := worn, free := 600 }

/-- A query in a run for slots 3 and 4 of four, one outstanding, and none; a READY snapshot with 24 spans, and a NONE holder. -/
theorem witness_MapQueriesAreAnswered :
    awaitsRequest (talk heldState) asking ∧ (talk heldState).control.run ≠ .off ∧
    (3 : Byte).toNat < (talk heldState).control.geometry.slots ∧ (talk heldState).control.geometry.slots ≤ (4 : Byte).toNat ∧
    ({ heldState with link := { heldState.link with holder := .gathering 0 } } : State).link.holder = .gathering 0 ∧
    (∀ n, heldState.link.holder ≠ .gathering n) ∧ (∀ n, (talk offState).link.holder ≠ .ready n) ∧
    ∃ (s : State) (n : Snapshot) (p : Span), awaitsRequest s asking ∧ s.link.holder = .ready n ∧ n.spans.length ≤ 24
      ∧ n.spans[23]? = some p :=
  ⟨talk_awaits _, by decide, by decide, by decide, rfl, (by intro n h; cases h), (by intro n h; cases h),
    talk { offState with link := { offState.link with holder := .ready wornSnapshot } }, _, _, talk_awaits _, rfl, by decide, rfl⟩

/-- A transaction before its request, bit 9, and a payload one byte short. -/
theorem witness_AttentionRequests : awaitsRequest (talk alert) asking ∧ 9 < 10 ∧ ([0xFF] : List Byte).length < 2 :=
  ⟨talk_awaits _, by decide, by decide⟩

/-- A fall of LSEL while a pair of cause and enable is set, and a reset. -/
theorem witness_AttentionLineFollowsCauses :
    (∃ t, exec .transactionBegin alert = .next t) ∧ atnAsserted alert.toDevice = true ∧ ∃ t, exec .reset alert = .next t :=
  ⟨⟨_, rfl⟩, by decide, _, rfl⟩

/-- An idle port with the memory side taken; and free, for a read in a run of 16 beats of slot 1, whose address is not its base. -/
theorem witness_TransfersStart :
    ((4096 : BitVec 26).toNat % 4 = 0 ∧ (4096 : BitVec 26).toNat + 4 * ((15 : BitVec 4).toNat + 1) ≤ 67108864) ∧
    (∃ s : State, s.port.transfer = none ∧ s.arbiter.onBus ≠ none) ∧
    (calmState.port.transfer = none ∧ calmState.arbiter.onBus = none ∧ calmState.engine.claiming = false
      ∧ calmState.control.run = .running ∧ offState.control.run ≠ .running) ∧
    (∀ k, k ≤ (15 : BitVec 4).toNat → passesUntouched calmState.toDevice ((8240 : BitVec 26).toNat + 4 * k)) := by
  refine ⟨by decide, ⟨{ heldState with port := { heldState.port with transfer := none } }, rfl, by decide⟩, by decide, ?_⟩
  intro k hk s i q hn
  refine ⟨(by intro h; cases h), ?_⟩
  rintro rfl rfl
  exfalso
  have h15 : k ≤ 15 := hk
  have h : ∀ k ∈ List.range 16, (match nameAddress small (8240 + 4 * k) with
      | .line _ 0 0 => true
      | _ => false) = false := by decide
  have hk' := h k (List.mem_range.mpr (by omega))
  have hn' : nameAddress small (8240 + 4 * k) = .line s 0 0 := hn
  rw [hn'] at hk'
  cases hk'

/-- The held state before the burner's read: slot 0 draining under r, an idle port and the memory side free. -/
def drainState (r : DrainRecord) : State :=
  { heldState with
    port := { transfer := none, brd := Beat.zero }, arbiter := { onBus := none, passOver := false }
    delivery := { heldState.delivery with record := some r, held := none } }

/-- The record of slot 0 with line 2 undecided and line 3 redirected to slot 3. -/
def freshRecord : DrainRecord :=
  { heldRecord with lines := [.clean, .clean, .unreached, .redirected 3 3, .unreached, .unreached, .unreached, .unreached] }

/-- A read of line i of slot 0, of eight sample beats or with two trailer beats, may begin. -/
theorem drainState_reads (r : DrainRecord) (i : Nat) (a : BitVec 26) (n : BitVec 4) (hs : r.slot = 0) (hl : i < r.lines.length)
    (hi : i < 8) (ha : a.toNat = 4096 + 48 * i) (hn : n.toNat ≤ 9) : ReadsDrain (drainState r) r i 0 a n where
  fits := ⟨by omega, by omega⟩
  idle := ⟨rfl, rfl⟩
  place :=
    { running := ⟨rfl, small_valid⟩
      draining := by rw [hs]; exact ⟨rfl, rfl, rfl⟩
      line := by rw [hs]; exact ⟨(by decide : 0 < 4), hi, hl⟩
      address := by rw [hs, ha]; show _ = 4096 + 0 * 4096 + i * 48 + 0; omega }

/-- That state with line 2 of slot 0 being written back and the burner's read of it waiting. -/
def waitingState : State :=
  { drainState freshRecord with
    arbiter := heldState.arbiter, port := { transfer := some (lineTwo false .waiting), brd := Beat.zero } }

/-- Line 0 of slot 0, decided, and line 4, not decided; line 3, redirected, with its trailer; a waiting read of line 2, whose grant, as
a transfer of its write-back completes, takes a hold; and the read that a grant forms. -/
theorem witness_ReadsOfTheDrainAreFormed :
    ReadsDrain (drainState freshRecord) freshRecord 0 0 4096 7 ∧ (drainState freshRecord).engine.claiming = false ∧
    (undecided (entryOf freshRecord 0) = false ∧ entryOf freshRecord 0 ≠ .held) ∧
    ReadsDrain (drainState freshRecord) freshRecord 4 0 4288 7 ∧ 0 + 4 * ((7 : BitVec 4).toNat + 1) ≤ 2 * small.samples ∧
    (undecided (entryOf freshRecord 4) = true ∧ decideContext (drainState freshRecord).toDevice freshRecord 4 ≠ .held) ∧
    ReadsDrain (drainState freshRecord) freshRecord 3 0 4240 9 ∧ entryOf freshRecord 3 = .redirected 3 3 ∧
    (spoiled (slotAt (drainState freshRecord).toDevice 0) = false ∧ lineAddress small 3 3 0 ≠ lineAddress small 0 3 0
      ∧ 8 ≤ (9 : BitVec 4).toNat ∧ 0 + 4 * 8 = 2 * small.samples) ∧
    (∃ k, RunGoesOn waitingState (engineTransfer heldJob) [] heldJob k) ∧
    waitingState.port.transfer = some (lineTwo false .waiting) ∧
    AtDrainLine waitingState freshRecord 2 0 ((lineTwo false .waiting).addr + 4 * (lineTwo false .waiting).next) ∧
    (undecided (entryOf freshRecord 2) = true ∧ decideContext waitingState.toDevice freshRecord 2 = .held) ∧
    ((lineTwo false .waiting).write = false ∧ (lineTwo false .waiting).unchanged = false
      ∧ (lineTwo false .waiting).next < (lineTwo false .waiting).beats) := by
  refine ⟨drainState_reads _ _ _ _ rfl ?_ ?_ ?_ ?_, rfl, ?_, drainState_reads _ _ _ _ rfl ?_ ?_ ?_ ?_, ?_, ?_,
    drainState_reads _ _ _ _ rfl ?_ ?_ ?_ ?_, rfl, ?_, ⟨_, ⟨rfl, rfl, rfl, rfl⟩, ⟨rfl, .inr rfl, ?_⟩, rfl⟩, rfl,
    ⟨⟨rfl, small_valid⟩, ⟨rfl, rfl, rfl⟩, ?_, ?_⟩, ?_, ?_⟩ <;> decide

/-- An engine transfer within the write-back of line 2 of slot 0, DRAINING, with a burner write and a burner read waiting, and the
mark clear and set. -/
theorem witness_BothClaimsAreOrdered :
    heldState.arbiter.onBus = some (engineTransfer heldJob) ∧ (engineTransfer heldJob).byEngine = true ∧
    (engineTransfer heldJob).orphan = false ∧ ([] : List Beat).length = (if (engineTransfer heldJob).write then 0 else 8) ∧
    heldState.engine.job = some heldJob ∧ heldJob.phase = .writeBack ∧
    heldJob.next + 4 * (engineTransfer heldJob).beats < heldJob.stop ∧
    ({ heldState with port := { heldState.port with transfer := some (lineTwo true .waiting) } } : State).port.transfer
      = some (lineTwo true .waiting) ∧ (lineTwo true .waiting).mode = .waiting ∧ (lineTwo false .waiting).write = false ∧
    (heldState.control.repair.urgentPrecedence = true ∧ heldState.arbiter.passOver = false
      ∧ (slotAt heldState.toDevice heldJob.slot).state = .draining) ∧
    ({ heldState with arbiter := { heldState.arbiter with passOver := true } } : State).arbiter.passOver = true := by decide

/-- A burner write on the memory side with its first beat to come, in OFF and, in slot slack, in a run; in ARMED at the base of a slot,
begun in OFF; in ARMED at a base after its first beat; and in ARMED elsewhere. -/
theorem witness_WriteBeatsAreForwarded :
    (onBusState offState (lineTwo true .forwarding)).port.transfer = some (lineTwo true .forwarding) ∧
    (lineTwo true .forwarding).next < (lineTwo true .forwarding).beats ∧
    (onBusState offState (lineTwo true .forwarding)).control.run = .off ∧
    (∃ m, (onBusState offState (lineTwo true .forwarding)).arbiter.onBus = some m ∧ m.byEngine = false) ∧
    nameAddress small 4136 = .slack 0 ∧
    (∀ s u, s = onBusState armedState u → s.control.run = .armed ∧
      (u = { lineTwo true .forwarding with addr := 8192, outside := true } →
        u.outside = true ∧ nameAddress s.control.geometry (u.addr + 4 * u.next) = .line 1 0 0) ∧
      (u = { lineTwo true .forwarding with addr := 8188, next := 1 } →
        u.next ≠ 0 ∧ u.next < u.beats ∧ nameAddress s.control.geometry (u.addr + 4 * u.next) = .line 1 0 0) ∧
      (u = lineTwo true .forwarding → nameAddress s.control.geometry (u.addr + 4 * u.next) = .line 0 2 0)) :=
  ⟨rfl, by decide, rfl, ⟨_, rfl, rfl⟩, by decide, fun _ _ h =>
    ⟨by rw [h]; rfl, fun hu => by subst hu h; decide, fun hu => by subst hu h; decide, fun hu => by subst hu h; decide⟩⟩

/-- The first write at the base of slot 3 in ARMED. -/
theorem witness_FirstWriteStartsTheRun :
    ∃ (s : State) (u : BurnerTransfer), s.port.transfer = some u ∧ u.write = true ∧ u.mode = .forwarding ∧ u.next = 0 ∧ 0 < u.beats
      ∧ u.outside = false ∧ s.control.run = .armed ∧ s.engine = Engine.start ∧ nameAddress s.control.geometry u.addr = .line 3 0 0
      ∧ 0 < s.control.geometry.lines ∧ 2 ≤ s.control.geometry.samples :=
  ⟨onBusState armedState { lineTwo true .forwarding with addr := 16384 }, _, rfl, rfl, rfl, rfl, by decide, rfl, rfl, rfl, by decide,
    by decide, by decide⟩

/-- A write stands at the base of slot k of the held state's ring. -/
theorem beginsState_begins (s : State) (k : Nat) (hk : k < 4) (hs : s.control = heldState.control)
    (hr : s.ring.slots = heldState.ring.slots) :
    BeginsSlot (onBusState s { lineTwo true .forwarding with addr := 4096 + 4096 * k })
      { lineTwo true .forwarding with addr := 4096 + 4096 * k } k full where
  port := ⟨rfl, rfl, rfl, rfl, (by decide : 0 < 10)⟩
  running := by
    show s.control.run = .running ∧ 2 ≤ s.control.geometry.slots ∧ 0 < s.control.geometry.lines ∧ 2 ≤ s.control.geometry.samples
    rw [hs]
    decide
  base := by
    show nameAddress s.control.geometry _ = _ ∧ k < s.ring.slots.length
    rw [hs, hr]
    match k, hk with
    | 0, _ => decide
    | 1, _ => decide
    | 2, _ => decide
    | 3, _ => decide
  enables := rfl

/-- The held state, slot 2 being filled: an advance to slot 3, jumps to slots 0 and 1, and a restart of slot 2; with the fill closed;
and while SEEKING. The advance to slot 2 after slot 1's fill has closed, slot 2 being EMPTY. -/
theorem witness_SlotsAreBegun :
    (∀ k, k < 4 → ∃ s u, BeginsSlot s u k full ∧ s.ring.lock = some .locked ∧ s.ring.fillSlot = some 2 ∧ s.ring.fillOpen = true
      ∧ 2 < s.ring.slots.length ∧ k < s.map.spans.length ∧ s.engine.job = some heldJob) ∧ heldJob.slot = 0 ∧
    (∃ s u, BeginsSlot s u 3 full ∧ s.ring.lock = some .locked ∧ s.ring.fillSlot = some 2 ∧ s.ring.fillOpen = false) ∧
    (∃ s u, BeginsSlot s u 1 full ∧ s.ring.lock = some .seeking) ∧ 3 = (2 + 1) % small.slots ∧ 1 ≠ (2 + 1) % small.slots ∧
    ∃ (s : State) (u : BurnerTransfer), s.port.transfer = some u ∧ u.write = true ∧ u.mode = .forwarding ∧ u.next = 0 ∧ 0 < u.beats
      ∧ s.control.run = .running ∧ s.ring.lock = some .locked ∧ s.ring.fillSlot = some 1 ∧ s.ring.fillOpen = false
      ∧ 2 = (1 + 1) % s.control.geometry.slots ∧ nameAddress s.control.geometry u.addr = .line 2 0 0
      ∧ 0 < s.control.geometry.lines ∧ 2 ≤ s.control.geometry.samples ∧ (slotAt s.toDevice 2).state = .empty
      ∧ (slotAt s.toDevice 0).state = .drained ∧ s.engine.job = none ∧ s.engine.order = [] :=
  ⟨fun k hk => ⟨_, _, beginsState_begins heldState k hk rfl rfl, rfl, rfl, rfl, (by decide : 2 < 4), hk, rfl⟩, rfl,
    ⟨_, _, beginsState_begins { heldState with ring := { heldState.ring with fillOpen := false } } 3 (by decide) rfl rfl, rfl, rfl,
      rfl⟩,
    ⟨_, _, beginsState_begins { heldState with ring := { heldState.ring with lock := some .seeking, fillOpen := false } } 1
      (by decide) rfl rfl, rfl⟩,
    by decide, by decide,
    onBusState calmState { lineTwo true .forwarding with addr := 12288 }, _, rfl, rfl, rfl, rfl, by decide, rfl, rfl, rfl, rfl,
    by decide, by decide, by decide, by decide, by decide, by decide, rfl, rfl⟩

/-- In the held state slot 3 is DRAINED, slot 1 FILLED and slot 2 FILLING, and slot 0 DRAINING with its record; the queue is empty. -/
theorem witness_OverwrittenFramesAreReported :
    (∀ k, k < 4 → ∃ s u, BeginsSlot s u k full ∧ s.reports.queue.length < 32 ∧ slotAt s.toDevice k = slotAt heldState.toDevice k
      ∧ SpanListWf (spansOf s.toDevice k) ∧ s.delivery.record = some heldRecord) ∧
    (slotAt heldState.toDevice 3).state = .drained ∧ (slotAt heldState.toDevice 1).state = .filled ∧
    (slotAt heldState.toDevice 2).state = .filling ∧ (slotAt heldState.toDevice 0).state = .draining := by
  refine ⟨fun k hk => ⟨_, _, beginsState_begins heldState k hk rfl rfl, (by decide : 0 < 32), rfl, ?_, rfl⟩, by decide, by decide, by decide,
    by decide⟩
  match k, hk with
  | 0, _ => unfold SpanListWf; decide
  | 1, _ => unfold SpanListWf; decide
  | 2, _ => unfold SpanListWf; decide
  | 3, _ => unfold SpanListWf; decide

/-- A write stands at line 2 of slot k of the held state's ring. -/
theorem writesState_writes (s : State) (k : Nat) (hk : k < 4) (hs : s.control = heldState.control) :
    WritesLine (onBusState s { lineTwo true .forwarding with addr := 4096 + 4096 * k + 96 })
      { lineTwo true .forwarding with addr := 4096 + 4096 * k + 96 } k 2 0 where
  port := ⟨rfl, rfl, rfl, (by decide : 0 < 10)⟩
  running := by show s.control.run = .running; rw [hs]; rfl
  place := by
    show nameAddress s.control.geometry _ = _
    rw [hs]
    match k, hk with
    | 0, _ => decide
    | 1, _ => decide
    | 2, _ => decide
    | 3, _ => decide

/-- A write at line 2 of slot 1, FILLED, and one at line 2 of slot 3, EMPTY, with no fill open; in the held state, slot 2 being filled,
writes at slot 0, whose job is aborted, and slot 1; and the same while SEEKING. -/
theorem witness_StrayWritesSpoilTheirSlot :
    (∃ (s s' : State) (u u' : BurnerTransfer), s.port.transfer = some u ∧ u.write = true ∧ u.mode = .forwarding ∧ u.next < u.beats
        ∧ s.control.run = .running ∧ s.ring.lock = some .locked ∧ s.ring.fillOpen = false
        ∧ nameAddress s.control.geometry (u.addr + 4 * u.next) = .line 1 2 0 ∧ ¬ (u.next = 0 ∧ 2 = 0 ∧ 0 = 0)
        ∧ s.engine.job = none ∧ s.engine.order = [] ∧ (slotAt s.toDevice 1).state ≠ .empty
        ∧ (slotAt s.toDevice 1).flags.stale = false ∧ s'.port.transfer = some u'
        ∧ nameAddress s'.control.geometry (u'.addr + 4 * u'.next) = .line 3 2 0 ∧ (slotAt s'.toDevice 3).state = .empty) ∧
    (∀ k, k < 2 → ∃ s u, WritesLine s u k 2 0 ∧ s.ring.lock = some .locked ∧ s.ring.fillOpen = true ∧ s.ring.fillSlot = some 2
      ∧ slotAt s.toDevice k = slotAt heldState.toDevice k ∧ s.engine.job = some heldJob) ∧
    (∀ k, k < 2 → ∃ s u, WritesLine s u k 2 0 ∧ s.ring.lock = some .seeking ∧ s.ring.fillOpen = false
      ∧ slotAt s.toDevice k = slotAt heldState.toDevice k ∧ s.engine.job = some heldJob) ∧
    heldJob.slot = 0 ∧ (slotAt heldState.toDevice 0).state ≠ .empty ∧ (slotAt heldState.toDevice 0).flags.stale = false
      ∧ (slotAt heldState.toDevice 1).state ≠ .empty ∧ (slotAt heldState.toDevice 1).flags.stale = false :=
  ⟨⟨onBusState calmState { lineTwo true .forwarding with addr := 8288 },
    onBusState calmState { lineTwo true .forwarding with addr := 16480 }, _, _, rfl, rfl, rfl, by decide, rfl, rfl, rfl, by decide,
    by decide, rfl, rfl, by decide, rfl, rfl, by decide, by decide⟩,
    fun k hk => ⟨_, _, writesState_writes heldState k (by omega) rfl, rfl, rfl, rfl, rfl, rfl⟩,
    fun k hk => ⟨_, _, writesState_writes { heldState with ring := { heldState.ring with lock := some .seeking, fillOpen := false } }
      k (by omega) rfl, rfl, rfl, rfl, rfl⟩, rfl, by decide, by decide, by decide, by decide⟩

/-- A beat with no tag; the first and the last sample beat of line 0, whose record is open; and a drain's beat while a closing record
waits for one beat and for two. -/
theorem witness_ReadBeatsAreDelivered :
    (∃ s s' : State, ∃ u u' : BurnerTransfer, s.port.transfer = some u ∧ u.write = false ∧ u.mode = .forwarding
      ∧ u.inPart = [none] ∧ s'.port.transfer = some u' ∧ u'.inPart = [some { line := 0, offset := 0 }]
      ∧ s'.delivery.closing = none ∧ s'.delivery.record = some heldRecord ∧ 0 < 2 * s'.control.geometry.samples
      ∧ 28 < 2 * s'.control.geometry.samples) ∧
    (∀ n, (closingState [some { line := 7, offset := 36 }] n).delivery.closing
        = some { heldRecord with endKind := .complete, inFlight := n }
      ∧ (closingState [some { line := 7, offset := 36 }] n).reports.queue.length < 32) :=
  ⟨⟨onBusState heldState { lineTwo false .forwarding with inPart := [none] },
    onBusState heldState { lineTwo false .forwarding with inPart := [some { line := 0, offset := 0 }] }, _, _, rfl, rfl, rfl, rfl,
    rfl, rfl, rfl, rfl, by decide, by decide⟩, fun _ => ⟨rfl, (by decide : 0 < 32)⟩⟩

/-- The two trailer beats of line 0, CLEAN, after its samples and after its rewritten trailer bytes 0 to 3; with an empty context; directly
after its own counted bytes 0 to 3 and not; and of an UNREACHED line. -/
theorem witness_TrailersAreRewritten :
    (∃ s : State, ∃ u : BurnerTransfer, ∃ c : LineContext, s.port.transfer = some u ∧ u.write = false ∧ u.mode = .forwarding
        ∧ u.inPart = [some { line := 0, offset := 32 }, some { line := 0, offset := 36 }] ∧ s.delivery.closing = none
        ∧ s.delivery.record = some heldRecord ∧ s.delivery.context = some c ∧ (slotAt s.toDevice 0).flags = SlotFlags.clear
        ∧ c.line = 0 ∧ 32 = 2 * s.control.geometry.samples ∧ c.next = some (2 * s.control.geometry.samples)
        ∧ 36 = 2 * s.control.geometry.samples + 4 ∧ ({ c with headMark := true } : LineContext).headMark = true
        ∧ entryOf heldRecord 0 = .clean) ∧
    (∀ tag counted, ∃ (s : State) (u : BurnerTransfer), s.port.transfer = some u ∧ u.write = false ∧ u.mode = .forwarding
      ∧ u.inPart = [some tag] ∧ s.delivery.closing = none ∧ s.delivery.record = some heldRecord ∧ s.delivery.context = none
      ∧ s.delivery.countedHead = counted ∧ (slotAt s.toDevice 0).flags = SlotFlags.clear) ∧
    entryOf heldRecord 0 = .clean ∧ entryOf heldRecord 5 = .unreached :=
  ⟨⟨onBusState { heldState with delivery := { heldState.delivery with
      context := some { line := 0, next := some 32, crc := 0, headMark := false } } }
      { lineTwo false .forwarding with inPart := [some { line := 0, offset := 32 }, some { line := 0, offset := 36 }] },
    _, _, rfl, rfl, rfl, rfl, rfl, rfl, rfl, rfl, rfl, rfl, rfl, rfl, rfl, rfl⟩,
    fun tag counted => ⟨onBusState { heldState with delivery := { heldState.delivery with countedHead := counted } }
      { lineTwo false .forwarding with inPart := [some tag] }, _, rfl, rfl, rfl, rfl, rfl, rfl, rfl, rfl, rfl⟩, rfl, rfl⟩

/-- A burner part with every beat delivered; an aborted job's transfer; a transfer within the write-back of a line; and a read's part
with six of ten beats left, which asks for a hold, goes on unchanged, or goes on. -/
theorem witness_TransfersComplete :
    ((forwarded (lineTwo true .forwarding)).byEngine = false
      ∧ ({ lineTwo true .forwarding with next := 10 } : BurnerTransfer).beats ≤ 10 ∧ (lineTwo true .forwarding).inPart = []) ∧
    (heldState.arbiter.onBus = some (engineTransfer heldJob) ∧ (engineTransfer heldJob).byEngine = true
      ∧ (engineTransfer heldJob).orphan = false ∧ (engineTransfer heldJob).write = true ∧ heldState.engine.job = some heldJob
      ∧ heldJob.phase = .writeBack ∧ heldJob.next + 4 * (engineTransfer heldJob).beats < heldJob.stop
      ∧ portState heldState.toDevice ≠ .waiting ∧ heldState.engine.claiming = false) ∧
    (orphanTransfer (engineTransfer heldJob)).orphan = true ∧
    (({ lineTwo false .forwarding with next := 4 } : BurnerTransfer).next < (lineTwo false .forwarding).beats
      ∧ ({ lineTwo false .forwarding with next := 4, holdAsked := true } : BurnerTransfer).holdAsked = true
      ∧ ({ lineTwo false .forwarding with next := 4, unchanged := true } : BurnerTransfer).unchanged = true
      ∧ (lineTwo false .forwarding).inPart = []) := by decide

/-- The hold of the held state, whose line lies below the delivery position. -/
theorem witness_HoldsExpire :
    offState.delivery.held = none ∧
    (heldState.delivery.held = some { line := 2, ticks := 3 } ∧ heldState.delivery.record = some heldRecord
      ∧ heldState.port.transfer = some (lineTwo false .held) ∧ (lineTwo false .held).mode = .held
      ∧ heldState.arbiter.onBus ≠ none ∧ 2 < heldRecord.lines.length ∧ positionAtLeast heldRecord.position 2 = false
      ∧ temporalUsable heldState.toDevice 0 2 = true) := by decide

/-- The last transfer of the write-back of line 2 of slot 0, while the burner's eight beats of that line are held. -/
theorem witness_WriteBackReleasesTheHold :
    ∃ (s : State) (m : MemTransfer) (j : Job) (p : Span) (u : BurnerTransfer), s.arbiter.onBus = some m ∧ m.byEngine = true
      ∧ m.orphan = false ∧ m.write = true ∧ s.engine.job = some j ∧ j.phase = .writeBack ∧ j.stop ≤ j.next + 4 * m.beats
      ∧ findSpan s.toDevice j.slot j.first = some p ∧ p.progress = 2 ∧ j.slot < s.map.spans.length
      ∧ s.delivery.held = some { line := 2, ticks := 3 } ∧ s.delivery.record = some heldRecord ∧ heldRecord.slot = j.slot
      ∧ s.ring.draining = some heldRecord.slot ∧ (slotAt s.toDevice 0).state = .draining
      ∧ positionAtLeast heldRecord.position 2 = false ∧ 2 < heldRecord.lines.length ∧ s.port.transfer = some u ∧ u.mode = .held
      ∧ u.write = false ∧ u.unchanged = false ∧ u.next < u.beats ∧ GeometryValid s.control.geometry
      ∧ u.addr + 4 * u.next = lineAddress s.control.geometry 0 2 0 ∧ 0 + 4 * (u.beats - u.next) ≤ 2 * s.control.geometry.samples :=
  ⟨{ heldState with
      engine := { heldState.engine with job := some { heldJob with next := 4224 } }
      arbiter := { onBus := some (engineTransfer { heldJob with next := 4224 }), passOver := false }
      port := { heldState.port with transfer := some { lineTwo false .held with beats := 8 } } }, _, _, _, _, rfl, rfl, rfl, rfl,
    rfl, rfl, by decide, rfl, rfl, by decide, rfl, rfl, rfl, rfl, rfl, rfl, by decide, rfl, rfl, rfl, rfl, by decide, small_valid,
    by decide, by decide⟩

/-- The engine's job for the span [5..5] of slot 1 in a phase, with a gather list, the read of one line in hand. -/
def slotOneJob (phase : Phase) (gather : List Fetch) : Job :=
  { heldJob with phase := phase, slot := 1, first := 5, last := 5, gather := gather, next := 8384, stop := 8416, lanes := [],
                 fields := [{ field := 0, first := 5, last := 5, above := some 4, below := some 6, aboveValues := [],
                              belowValues := [], pairs := 0, diff := 0, motion := none, weight := 8, kind := .interpolation }] }

/-- The span of that job, ACTIVE. -/
def slotOneSpan : Span := { newSpan 5 onlyTorn with state := .active }

/-- A run whose engine has that read on the memory side, with given entries of slots 0 and 1. -/
def gatherState (zero one : SlotEntry) (j : Job) : State :=
  { calmState with
    ring := { calmState.ring with slots := [zero, one, entry .empty 0, entry .empty 0] }
    map := { spans := [[], [slotOneSpan], [], []] }
    engine := { order := [], job := some j, claiming := false }
    arbiter := { onBus := some (engineTransfer j), passOver := false } }

/-- Fetches of the lines around line 5 of slot 1, and of the same lines of the slot before it. -/
def ownAbove : Fetch := { role := .boundaryAbove, field := 0, slot := 1, line := 4 }
def ownBelow : Fetch := { role := .boundaryBelow, field := 0, slot := 1, line := 6 }
def refAbove : Fetch := { role := .referenceAbove, field := 0, slot := 0, line := 4 }

/-- The read in hand ends with its eight beats. -/
theorem gatherState_ends (zero one : SlotEntry) (phase : Phase) (g : List Fetch) (h : phase ≠ .writeBack) :
    RunEnds (gatherState zero one (slotOneJob phase g)) (engineTransfer (slotOneJob phase g)) (List.replicate 8 Beat.zero)
      (slotOneJob phase g) slotOneSpan := by
  have hw : (engineTransfer (slotOneJob phase g)).write = false := by
    cases phase <;> first | rfl | exact absurd rfl h
  have hb : (engineTransfer (slotOneJob phase g)).beats = 8 :=
    (by decide : (min 8416 ((8384 / 64 + 1) * 64) - 8384) / 4 = 8)
  exact ⟨⟨rfl, rfl, rfl, hw, by rw [hb]; rfl⟩, ⟨rfl, by rw [hb]; simp [slotOneJob]⟩,
    ⟨rfl, (by decide : 5 ≤ 5), (by decide : 1 < 4)⟩, (by decide : PortState.idle ≠ .waiting)⟩

/-- The gather of line 5 of slot 1 with fetches left: an own one, a reference one, and after the reference is lost an own one behind it;
with the line reached by the drain; at the gather's end with the line reached, and not, with and without a usable source. -/
theorem witness_GatherFetchesComplete :
    (∀ zero one g, RunEnds (gatherState zero one (slotOneJob .gather g)) (engineTransfer (slotOneJob .gather g))
      (List.replicate 8 Beat.zero) (slotOneJob .gather g) slotOneSpan) ∧
    (reached (gatherState (entry .drained 4) (entry .filled 5) (slotOneJob .gather [])).toDevice 1 5 = false
      ∧ isReferenceFetch ownBelow = false ∧ isReferenceFetch refAbove = true
      ∧ referenceValid (gatherState (entry .drained 4) (entry .filled 5) (slotOneJob .gather [])).toDevice 1 = true
      ∧ temporalUsable (gatherState (entry .drained 4) (entry .filled 5) (slotOneJob .gather [])).toDevice 1 5 = true) ∧
    (referenceValid (gatherState (entry .empty 0) (entry .filled 5) (slotOneJob .gather [])).toDevice 1 = false
      ∧ temporalUsable (gatherState (entry .empty 0) (entry .filled 5) (slotOneJob .gather [])).toDevice 1 5 = false
      ∧ [refAbove, ownBelow].filter (fun x => !isReferenceFetch x) = [ownBelow]) ∧
    (∀ i, i ≤ 5 → reached (gatherState (entry .drained 4) (entry .drained 5) (slotOneJob .gather [])).toDevice 1 i = true)
      ∧ (gatherState (entry .drained 4) (entry .drained 5) (slotOneJob .gather [ownAbove])).engine.order = [] :=
  ⟨fun _ _ _ => gatherState_ends _ _ _ _ (by decide), by decide, by decide, fun _ _ => rfl, rfl⟩

/-- The temporal fetch and the stored read of line 5 of slot 1, with and without spatial values and a valid reference, and reached. -/
theorem witness_LineFetchesComplete :
    (∀ zero one, RunEnds (gatherState zero one (slotOneJob .lineFetch [])) (engineTransfer (slotOneJob .lineFetch []))
      (List.replicate 8 Beat.zero) (slotOneJob .lineFetch []) slotOneSpan) ∧
    (∀ zero one, RunEnds (gatherState zero one (slotOneJob .storedRead [])) (engineTransfer (slotOneJob .storedRead []))
      (List.replicate 8 Beat.zero) (slotOneJob .storedRead []) slotOneSpan) ∧
    slotOneSpan.progress = 5 ∧ (slotOneJob .lineFetch []).last = 5 ∧
    reached (gatherState (entry .empty 0) (entry .filled 5) (slotOneJob .lineFetch [])).toDevice 1 5 = false ∧
    reached (gatherState (entry .empty 0) (entry .drained 5) (slotOneJob .lineFetch [])).toDevice 1 5 = true ∧
    (∃ x, (slotOneJob .lineFetch []).fields.find? (fun x => x.field == 5 % fieldDistance small) = some x
      ∧ (combine (spatialValues 1 5 x) none x.weight x.kind).1 ≠ none
      ∧ (combine (spatialValues 1 5 { x with above := none, below := none }) none x.weight .none).1 = none) :=
  ⟨fun _ _ => gatherState_ends _ _ _ _ (by decide), fun _ _ => gatherState_ends _ _ _ _ (by decide), rfl, rfl, by decide, by decide,
    _, rfl, by decide, by decide⟩

/-- The last slot, line and trailer beat of a valid geometry, and the addresses just outside the ring. -/
theorem witness_AddressesAreNamed :
    GeometryValid small ∧ 3 < small.slots ∧ 7 < small.lines ∧ 36 < 2 * small.samples + 8 ∧ 4095 < small.base
      ∧ small.base + small.slots * small.slotPitch ≤ 20480 := ⟨small_valid, by decide, by decide, by decide, by decide, by decide⟩

/-- Slots 0 and 3 of four; and a line of slot 0 with a spatial source above, one with a source below, and a reach that finds none. -/
theorem witness_RedirectSources :
    0 < heldState.control.geometry.slots ∧ 3 < heldState.control.geometry.slots ∧
    spatialSource heldState.toDevice heldRecord 2 = some 1 ∧ spatialSource heldState.toDevice heldRecord 0 = some 1 ∧
    spatialSource heldState.toDevice { heldRecord with reach := 0 } 2 = none := by decide

/-- Slot 1, FILLED, slot 2, the open fill, and slot 3, DRAINED, with no slot DRAINING; the held state's drain, of which no beat is on its
way; and the naming of its last beat. -/
theorem witness_DrainsStartAndEnd :
    (∃ d : Device, d.ring.draining = none ∧ 3 < d.ring.slots.length ∧ (slotAt d 1).state = .filled ∧ (slotAt d 2).state = .filling
      ∧ (slotAt d 3).state = .drained) ∧
    (heldState.ring.draining = some 0 ∧ heldState.delivery.record = some heldRecord ∧ heldState.delivery.closing = none
      ∧ 0 < heldState.ring.slots.length ∧ heldRecord.inFlight = 0 ∧ heldState.reports.queue.length < 32) ∧
    (∃ k : Asked, k.ends = true ∧ k.tag ≠ none ∧ k.device = heldState.toDevice) ∧
    (askBeat 4468 heldState.toDevice).ends = true :=
  ⟨⟨{ heldState.toDevice with ring := { heldState.ring with
      slots := [entry .drained 4, entry .filled 5, entry .filling 6, entry .drained 3], draining := none } },
    rfl, by decide, by decide, by decide, by decide⟩, by decide,
    ⟨{ askBeat 4468 heldState.toDevice with device := heldState.toDevice, tag := some { line := 7, offset := 36 } }, by decide,
      by decide, rfl⟩, by decide⟩

/-- Line 1 in no span; line 2, line r of the ACTIVE span; line 2 below r; a held line; and a redirected one. -/
theorem witness_LinesAreDecided :
    spanHolding heldState.toDevice 0 1 = none ∧
    (∃ p, spanHolding heldState.toDevice 0 2 = some p ∧ p.state = .active ∧ p.progress = 2 ∧ 2 < p.progress + 1) ∧
    spoiled (slotAt heldState.toDevice 0) = false ∧ unchecked (slotAt heldState.toDevice 0) 2 = false ∧
    (∃ r : DrainRecord, entryOf r 2 = .unreached ∧ 0 < r.holdBudget ∧ r.holdBudget ≤ r.allowanceLeft
      ∧ decideContext heldState.toDevice r 2 = .held) ∧
    decideContext heldState.toDevice heldRecord 3 = .redirected 3 3 ∧
    (∃ d : Device, temporalUsable d 0 3 = false ∧ spatialSource d heldRecord 3 = some 1) := by
  refine ⟨by decide, ⟨_, rfl, rfl, rfl, by decide⟩, by decide, by decide, ?_, by decide,
    { heldState.toDevice with ring := { heldState.ring with slots := [entry .draining 4, entry .filled 5, entry .filling 6,
        entry .empty 0] } }, by decide, by decide⟩
  exact ⟨{ heldRecord with lines := List.replicate 8 .unreached, holdBudget := 100 }, by decide, by decide, by decide, by decide⟩

/-- The last beat of the last line of slot 2, its samples and trailer bytes 0 to 3 taken, with records free; and with none free, slot 2
having no span. A beat of line 2 of the open fill slot 2; an open line at any next offset; and no line open, line 0 having any status. -/
theorem witness_LineBeatsAreJudged :
    (∃ (d d' : Device) (c : OpenLine) (w : StoredTrailer), d.checker.context = some c ∧ c.line = 7 ∧ c.next = 36
        ∧ 36 = 2 * d.control.geometry.samples + 4 ∧ c.stored = some w ∧ 7 < d.checker.table.length ∧ 2 < d.map.spans.length
        ∧ (d.map.spans.map List.length).sum < 1024 ∧ d' = { d with map := d'.map } ∧ 2 < d'.map.spans.length
        ∧ spansOf d' 2 = [] ∧ 1024 ≤ (d'.map.spans.map List.length).sum) ∧
    (∃ s u, WritesLine s u 2 2 0 ∧ s.ring.fillSlot = some 2 ∧ s.ring.fillOpen = true) ∧
    (∀ n, ∃ (d : Device) (c : OpenLine), d.checker.context = some c ∧ c.line = 3 ∧ c.next = n ∧ d.control.geometry.samples = 16) ∧
    (∀ x, ∃ d : Device, d.checker.context = none ∧ statusOf d 0 = x) :=
  ⟨⟨{ heldState.toDevice with checker := { heldState.checker with
      context := some { line := 7, next := 36, crc := 0, illegal := 5, stored := some { number := 6, deck := 5 } } } },
    { heldState.toDevice with
      checker := { heldState.checker with
        context := some { line := 7, next := 36, crc := 0, illegal := 5, stored := some { number := 6, deck := 5 } } }
      map := { spans := [[], [], []] ++ List.replicate 43 worn } },
    _, _, rfl, rfl, rfl, rfl, rfl, by decide, by decide, by decide, rfl, by decide, rfl, by decide⟩,
    ⟨_, _, writesState_writes heldState 2 (by decide) rfl, rfl, rfl⟩,
    fun n => ⟨{ heldState.toDevice with checker := { heldState.checker with
      context := some { line := 3, next := n, crc := 0, illegal := 0, stored := none } } }, _, rfl, rfl, rfl, rfl⟩,
    fun x => ⟨{ heldState.toDevice with checker := { context := none, table := List.replicate 8 x } }, rfl, rfl⟩⟩

/-- The open fill of slot 2 with no line open, and with line 3 open: slot 2 has no span, and is not LOSSY after the close. -/
theorem witness_FillsCloseAndQueueTheirSpans :
    2 < heldState.ring.slots.length ∧ heldState.checker.context = none ∧ 0 ≠ 2 ∧ heldState.reports.counters.linesDamaged ≤ 4294967295 ∧
    ∃ (d : Device) (c : OpenLine), d.checker.context = some c ∧ c.line = 3 ∧ SpanListWf (spansOf d 2) ∧ 2 < d.map.spans.length
      ∧ (slotAt (closeFill 2 true d) 2).flags.lossy = false ∧ d.checker.table[5]? = some .unwritten :=
  ⟨by decide, rfl, by decide, by decide,
    { heldState.toDevice with checker := { heldState.checker with
      context := some { line := 3, next := 4, crc := 0, illegal := 0, stored := none } } }, _, rfl, rfl,
    by unfold SpanListWf; decide, by decide, by decide, by decide⟩

/-- The 24 spans of section 4.5, with and without a free record, and an empty list with none; line 476, away from them all; and one span
with no record free, and line 9 away from it. -/
theorem witness_RecordingKeepsEveryLine :
    (SpanListWf worn ∧ SpanListWf [] ∧ worn.any (holdsLine 5) = true ∧ worn.any (holdsLine 6) = false
      ∧ (recordLine worn false 6 onlyTorn true).lost = false) ∧
    ((∀ p ∈ worn, 476 + 1 < p.first ∨ p.last + 1 < 476) ∧ worn.length = 24) ∧
    SpanListWf [newSpan 5 onlyTorn] ∧ (∀ p ∈ [newSpan 5 onlyTorn], 9 + 1 < p.first ∨ p.last + 1 < 9)
      ∧ [newSpan 5 onlyTorn] ≠ [] ∧ [newSpan 5 onlyTorn].length < 24 := by
  refine ⟨⟨?_, ?_, by decide, by decide, by decide⟩, by decide, ?_, by decide, by decide, by decide⟩ <;>
    unfold SpanListWf <;> decide

/-- Figures at, just past and beyond the thresholds 4 and 40, and at equal thresholds. -/
theorem witness_WeightFollowsMotion :
    8 ≤ 16 ∧ (4 ≤ 4 ∧ 4 < 5) ∧ (4 ≤ 4) ∧ (4 < 40 ∧ 40 ≤ 40) ∧ (4 < 39 ∧ 39 < 40) := by decide

/-- A field record with one boundary line, and positions 1 and k between two. -/
theorem witness_SpatialValues :
    ∃ f : FieldRecord, f.above = some 18 ∧ f.below = none ∧ (1 ≤ 1 ∧ 1 ≤ 3) ∧ (1 ≤ 3 ∧ 3 ≤ 3)
      ∧ (18 < 20 ∧ 20 < 24 ∧ (20 - 18) % 2 = 0 ∧ (24 - 20) % 2 = 0) :=
  ⟨{ field := 0, first := 20, last := 22, above := some 18, below := none, aboveValues := [500], belowValues := [], pairs := 0,
     diff := 0, motion := none, weight := 8, kind := .edgeCopy }, rfl, rfl, by decide, by decide, by decide⟩

/-- Weights 0 and 16, and the largest value. -/
theorem witness_OutputsAndGrades : 0 ≤ 16 ∧ 16 ≤ 16 ∧ 1023 ≤ 1023 := by decide

/-- Values at and outside the legal range; the last line number, tag and grade. -/
theorem witness_RepairedLineIsConsistent :
    (63 < small.lo ∧ small.hi < 941 ∧ small.lo ≤ 64 ∧ 940 ≤ small.hi) ∧
    (List.replicate 16 (500 : Nat)).length = small.samples ∧ small.lo < small.hi ∧ small.hi ≤ 1023 ∧ 2047 < 2048 ∧ 15 ≤ 15
      ∧ 6 ≤ 6 := by decide

/-- A run of ten beats from 32 bytes into a block. The held state's map with an IDLE engine: the span of slot 1 at the head of the order,
with a fetch to make, and reached once slot 1 is DRAINED. -/
theorem witness_EngineTakesSpansAndCutsRuns :
    (heldJob.next % 4 = 0 ∧ heldJob.stop % 4 = 0 ∧ heldJob.next < heldJob.stop) ∧
    (heldState.engine.job ≠ none ∧ offState.control.run ≠ .running ∧ calmState.engine.order = []) ∧
    (∃ (d : Device) (p : Span), d.control.run = .running ∧ d.engine.job = none ∧ d.engine.order = [⟨1, 5⟩]
      ∧ findSpan d 1 5 = some p ∧ reached d 1 p.last = false
      ∧ (layOutJob { d with engine := { d.engine with order := [] } } 1 p).gather ≠ []) ∧
    (∃ (d : Device) (p : Span), d.control.run = .running ∧ d.engine.job = none ∧ d.engine.order = [⟨1, 5⟩]
      ∧ findSpan d 1 5 = some p ∧ reached d 1 p.last = true) :=
  ⟨by decide, by decide,
    ⟨{ heldState.toDevice with engine := { heldState.engine with job := none } }, _, rfl, rfl, rfl, rfl, by decide, by decide⟩,
    ⟨{ heldState.toDevice with
      engine := { heldState.engine with job := none }
      ring := { heldState.ring with slots := [entry .draining 4, entry .drained 5, entry .filling 6, entry .drained 3] } }, _,
      rfl, rfl, rfl, rfl, by decide⟩⟩

/-- The write-back of line 2 of the span [2..3] of slot 0 with its last transfer on the memory side, slot 0 in a given state. -/
def writeBackState (state : SlotState) (before : SlotEntry) : State :=
  { calmState with
    ring := { calmState.ring with slots := [entry state 4, entry .filled 1, entry .empty 0, before] }
    map := { spans := [[{ newSpan 2 onlyTorn with last := 3, state := .active }], [], [], []] }
    engine := { order := [], job := some { heldJob with next := 4224 }, claiming := false }
    arbiter := { onBus := some (engineTransfer { heldJob with next := 4224 }), passOver := false } }

/-- The last transfer of the write-back of line 3, the last of the span [2..3] of slot 0, FILLED; and of line 2 of that span, with line 3
to be begun, with and without a usable source, and with both reached, slot 0 being DRAINED. -/
theorem witness_WriteBacksEndTheirLine :
    (∃ (s : State) (m : MemTransfer) (j : Job) (p : Span), s.arbiter.onBus = some m ∧ m.byEngine = true ∧ m.orphan = false
        ∧ m.write = true ∧ s.engine = { order := [], job := some j, claiming := false } ∧ j.phase = .writeBack
        ∧ j.stop ≤ j.next + 4 * m.beats ∧ (slotAt s.toDevice j.slot).state = .filled ∧ s.delivery.held = none
        ∧ findSpan s.toDevice j.slot j.first = some p ∧ p.progress = j.last ∧ portState s.toDevice ≠ .waiting
        ∧ j.slot < s.map.spans.length) ∧
    (∀ state before, ∃ p, (writeBackState state before).arbiter.onBus = some (engineTransfer { heldJob with next := 4224 })
      ∧ (writeBackState state before).engine.job = some { heldJob with next := 4224 }
      ∧ (writeBackState state before).delivery.held = none ∧ portState (writeBackState state before).toDevice = .idle
      ∧ findSpan (writeBackState state before).toDevice 0 2 = some p ∧ p.progress = 2) ∧
    (heldJob.last = 3 ∧ heldJob.stop ≤ 4224 + 4 * (engineTransfer { heldJob with next := 4224 }).beats) ∧
    (reached (writeBackState .filled (entry .drained 3)).toDevice 0 2 = false
      ∧ reached (writeBackState .filled (entry .drained 3)).toDevice 0 3 = false
      ∧ temporalUsable (writeBackState .filled (entry .drained 3)).toDevice 0 3 = true
      ∧ temporalUsable (writeBackState .filled (entry .empty 0)).toDevice 0 3 = false) ∧
    (∀ n, reached (writeBackState .drained (entry .drained 3)).toDevice 0 n = true) :=
  ⟨⟨{ calmState with
      ring := { calmState.ring with slots := [entry .filled 4, entry .filled 1, entry .empty 0, entry .empty 0] }
      map := { spans := [[{ newSpan 2 onlyTorn with last := 3, state := .active, progress := 3 }], [], [], []] }
      engine := { order := [], job := some { heldJob with next := 4224 }, claiming := false }
      arbiter := { onBus := some (engineTransfer { heldJob with next := 4224 }), passOver := false } },
    _, _, _, rfl, rfl, rfl, rfl, rfl, rfl, by decide, by decide, rfl, rfl, rfl, by decide, by decide⟩,
    fun _ _ => ⟨_, rfl, rfl, rfl, rfl, rfl, rfl⟩, by decide, by decide, fun _ => rfl⟩

end Sys2Proof.Tests
end

section
/-! PROOFS. The concealment arithmetic (section 5): the weight of a field run, the spatial value and its kind, the output and its grade. -/

namespace Sys2Proof.Machine

/-! ### Weighted means -/

/-- A weighted mean of two values, with an addend less than the sum of the weights for its rounding, lies between them. -/
theorem weightedMean_between {n p q h : Nat} (hn : p + q = n) (hh : h < n) (x y : Nat) :
    min x y ≤ (x * p + y * q + h) / n ∧ (x * p + y * q + h) / n ≤ max x y := by
  have hlo : min x y * n ≤ x * p + y * q := by
    rw [← hn, Nat.mul_add]
    exact Nat.add_le_add (Nat.mul_le_mul_right p (Nat.min_le_left x y)) (Nat.mul_le_mul_right q (Nat.min_le_right x y))
  have hhi : x * p + y * q ≤ max x y * n := by
    rw [← hn, Nat.mul_add]
    exact Nat.add_le_add (Nat.mul_le_mul_right p (Nat.le_max_left x y)) (Nat.mul_le_mul_right q (Nat.le_max_right x y))
  constructor
  · rw [Nat.le_div_iff_mul_le (by omega)]
    omega
  · rw [← Nat.lt_succ_iff, Nat.div_lt_iff_lt_mul (by omega), Nat.succ_mul]
    omega

/-- A quotient with half the divisor added before the division is at most half a unit from the exact one, above or below. -/
theorem mul_div_roundHalfUp {n : Nat} (hn : 0 < n) (v : Nat) :
    2 * (n * ((v + n / 2) / n)) ≤ 2 * v + n ∧ 2 * v < 2 * (n * ((v + n / 2) / n)) + n + 1 := by
  have hdiv := Nat.div_add_mod (v + n / 2) n
  have hmod := Nat.mod_lt (v + n / 2) hn
  omega

/-! ### The weight (R88) -/

/-- At most Tstill the field run counts as still. -/
theorem weightOf_of_le_tStill {tStill m : Nat} (tMove wDefault : Nat) (h : m ≤ tStill) :
    weightOf tStill tMove wDefault (some m) = 16 := by
  simp [weightOf, h]

/-- Above Tstill and from Tmove on it counts as moving; with Tmove at most Tstill that is every figure above Tstill. -/
theorem weightOf_of_tMove_le {tStill tMove m : Nat} (wDefault : Nat) (h : tStill < m) (h' : tMove ≤ m) :
    weightOf tStill tMove wDefault (some m) = 0 := by
  simp [weightOf, h', Nat.not_le.mpr h]

/-- Between the thresholds the weight falls linearly. -/
theorem weightOf_of_between {tStill tMove m : Nat} (wDefault : Nat) (h : tStill < m) (h' : m < tMove) :
    weightOf tStill tMove wDefault (some m) = 16 * (tMove - m) / (tMove - tStill) := by
  simp [weightOf, Nat.not_le.mpr h, Nat.not_le.mpr h', Nat.not_le.mpr (h.trans h')]

theorem weightOf_between_le {tStill tMove m : Nat} (wDefault : Nat) (h : tStill < m) (h' : m < tMove) :
    weightOf tStill tMove wDefault (some m) ≤ 15 := by
  rw [weightOf_of_between wDefault h h', ← Nat.lt_succ_iff, Nat.div_lt_iff_lt_mul (by omega)]
  omega

theorem weightOf_le_sixteen (tStill tMove : Nat) {wDefault : Nat} (hd : wDefault ≤ 16) (x : Option Nat) :
    weightOf tStill tMove wDefault x ≤ 16 := by
  cases x with
  | none => exact hd
  | some m =>
    rcases Nat.lt_or_ge tStill m with hs | hs
    · rcases Nat.lt_or_ge m tMove with hm | hm
      · exact (weightOf_between_le wDefault hs hm).trans (by decide)
      · simp [weightOf_of_tMove_le wDefault hs hm]
    · simp [weightOf_of_le_tStill tMove wDefault hs]

/-- More motion never raises the weight. -/
theorem weightOf_antitone (tStill tMove : Nat) {wDefault m m' : Nat} (hd : wDefault ≤ 16) (h : m ≤ m') :
    weightOf tStill tMove wDefault (some m') ≤ weightOf tStill tMove wDefault (some m) := by
  rcases Nat.lt_or_ge tStill m with hs | hs
  · rcases Nat.lt_or_ge m' tMove with hm | hm
    · rw [weightOf_of_between wDefault hs (h.trans_lt hm), weightOf_of_between wDefault (hs.trans_le h) hm]
      exact Nat.div_le_div_right (by omega)
    · simp [weightOf_of_tMove_le wDefault (hs.trans_le h) hm]
  · rw [weightOf_of_le_tStill tMove wDefault hs]
    exact weightOf_le_sixteen tStill tMove hd (some m')

/-! The settings that a job took at its gather stay as it goes to a fetch. -/

@[simp] theorem atFetch_tStill (g : Geometry) (j : Job) : (atFetch g j).tStill = j.tStill := by
  unfold atFetch
  split <;> rfl

@[simp] theorem atFetch_tMove (g : Geometry) (j : Job) : (atFetch g j).tMove = j.tMove := by
  unfold atFetch
  split <;> rfl

@[simp] theorem atFetch_wDefault (g : Geometry) (j : Job) : (atFetch g j).wDefault = j.wDefault := by
  unfold atFetch
  split <;> rfl

/-! ### The spatial value (R89, R90) -/

theorem spatialValues_interpolation {f : FieldRecord} {a b : Nat} (step i : Nat) (ha : f.above = some a) (hb : f.below = some b) :
    spatialValues step i f =
      some (List.zipWith (interpolate ((b - a) / step - 1) ((i - a) / step)) f.aboveValues f.belowValues) := by
  simp [spatialValues, ha, hb]

theorem spatialValues_edgeAbove {f : FieldRecord} {a : Nat} (step i : Nat) (ha : f.above = some a) (hb : f.below = none) :
    spatialValues step i f = some f.aboveValues := by
  simp [spatialValues, ha, hb]

theorem spatialValues_edgeBelow {f : FieldRecord} {b : Nat} (step i : Nat) (ha : f.above = none) (hb : f.below = some b) :
    spatialValues step i f = some f.belowValues := by
  simp [spatialValues, ha, hb]

theorem spatialValues_none {f : FieldRecord} (step i : Nat) (ha : f.above = none) (hb : f.below = none) :
    spatialValues step i f = none := by
  simp [spatialValues, ha, hb]

/-- The position of a line between two boundary lines of its field: with i and b whole field distances u and v further on than a and i,
k = u + v - 1 and p = u. -/
theorem position_between {step i a b : Nat} (hs : 0 < step) (ha : a < i) (hb : i < b) (hia : (i - a) % step = 0)
    (hbi : (b - i) % step = 0) : 1 ≤ (i - a) / step ∧ (i - a) / step ≤ (b - a) / step - 1 := by
  obtain ⟨u, hu⟩ := Nat.dvd_of_mod_eq_zero hia
  obtain ⟨v, hv⟩ := Nat.dvd_of_mod_eq_zero hbi
  have hu0 : 0 < u := Nat.pos_of_mul_pos_left (a := step) (by omega)
  have hv0 : 0 < v := Nat.pos_of_mul_pos_left (a := step) (by omega)
  have huv : b - a = step * (u + v) := by
    rw [Nat.mul_add]
    omega
  rw [hu, huv, Nat.mul_div_cancel_left u hs, Nat.mul_div_cancel_left (u + v) hs]
  omega

theorem interpolate_between {k p : Nat} (hp : p ≤ k) (x y : Nat) :
    min x y ≤ interpolate k p x y ∧ interpolate k p x y ≤ max x y :=
  weightedMean_between (by omega) (by omega) x y

theorem interpolate_roundHalfUp (k p x y : Nat) :
    2 * (k + 1) * interpolate k p x y ≤ 2 * (x * (k + 1 - p) + y * p) + (k + 1) ∧
    2 * (x * (k + 1 - p) + y * p) < 2 * (k + 1) * interpolate k p x y + (k + 1) + 1 := by
  rw [Nat.mul_assoc]
  exact mul_div_roundHalfUp k.succ_pos (x * (k + 1 - p) + y * p)

/-- The kind by the boundary lines present (R85). -/
theorem spatialKind_iff (above below : Option Nat) :
    (spatialKind above below = .interpolation ↔ above ≠ none ∧ below ≠ none) ∧
    (spatialKind above below = .edgeCopy ↔ (above = none ↔ below ≠ none)) ∧
    (spatialKind above below = .none ↔ above = none ∧ below = none) := by
  cases above with
  | none => cases below <;> simp [spatialKind]
  | some a => cases below <;> simp [spatialKind]

/-! ### The output and its grade (R92, R93) -/

theorem spatialGrade_eq (k : SpatialKind) :
    spatialGrade k = if k = .interpolation then 3 else if k = .edgeCopy then 4 else 6 := by
  cases k <;> rfl

theorem blendGrade_eq (w : Nat) (k : SpatialKind) :
    blendGrade w k =
      if w = 16 then 1 else if 0 < w then 2 else if k = .interpolation then 3 else if k = .edgeCopy then 4 else 6 := by
  rcases Nat.eq_zero_or_pos w with rfl | hw
  · simp [blendGrade, spatialGrade_eq]
  · simp [blendGrade, hw, hw.ne']

theorem combine_both (x t : List Nat) (w : Nat) (k : SpatialKind) :
    combine (some x) (some t) w k = (some (List.zipWith (blend w) t x), blendGrade w k) := rfl

theorem combine_spatial (x : List Nat) (w : Nat) (k : SpatialKind) :
    combine (some x) none w k = (some x, spatialGrade k) := rfl

theorem combine_temporal (t : List Nat) (w : Nat) (k : SpatialKind) : combine none (some t) w k = (some t, 1) := rfl

theorem combine_neither (w : Nat) (k : SpatialKind) : combine none none w k = (none, 6) := rfl

theorem blend_sixteen (t s : Nat) : blend 16 t s = t := by
  simp only [blend]
  omega

theorem blend_zero (t s : Nat) : blend 0 t s = s := by
  simp only [blend]
  omega

theorem blend_between {w : Nat} (hw : w ≤ 16) (t s : Nat) : min t s ≤ blend w t s ∧ blend w t s ≤ max t s := by
  have h := weightedMean_between (n := 16) (p := w) (q := 16 - w) (h := 8) (by omega) (by omega) t s
  rwa [Nat.mul_comm t, Nat.mul_comm s] at h

end Sys2Proof.Machine

namespace Sys2Proof.Conceal

open Sys2Proof.Machine

/-- Settles O55: the rows by the place of M among the thresholds; the settings by what `layOutJob` takes and `endGather` uses. -/
theorem weightFollowsMotion : Obligations.WeightFollowsMotion := by
  refine ⟨fun tStill tMove wDefault hd => ?_, fun _ _ _ _ _ => ⟨_, rfl, rfl, rfl⟩, fun d s p => ⟨_, rfl, ?_⟩,
    fun _ _ => ⟨_, rfl, rfl⟩⟩
  · exact ⟨rfl,
      fun _ _ h => weightOf_of_le_tStill tMove wDefault h,
      fun _ ht h => weightOf_of_tMove_le wDefault h (ht.trans h.le),
      fun _ h => weightOf_of_le_tStill tMove wDefault h,
      fun _ h h' => weightOf_of_tMove_le wDefault h h',
      fun _ h h' => ⟨weightOf_of_between wDefault h h', weightOf_between_le wDefault h h'⟩,
      fun _ _ h => weightOf_antitone tStill tMove hd h,
      weightOf_le_sixteen tStill tMove hd⟩
  · simp [layOutJob]

/-- Settles O56: the value by the boundary lines present, its bounds as a weighted mean, the kind as the record is made. -/
theorem spatialValues : Obligations.SpatialValues :=
  ⟨fun step i _ _ _ ha hb => spatialValues_interpolation step i ha hb,
    fun step i _ _ ha hb => spatialValues_edgeAbove step i ha hb,
    fun step i _ _ ha hb => spatialValues_edgeBelow step i ha hb,
    fun step i _ ha hb => spatialValues_none step i ha hb,
    fun _ _ _ _ hs ha hb hia hbi => position_between hs ha hb hia hbi,
    fun k p x y _ hp => ⟨(interpolate_between hp x y).1, (interpolate_between hp x y).2, interpolate_roundHalfUp k p x y⟩,
    fun _ _ _ _ => ⟨_, rfl, spatialKind_iff _ _⟩⟩

/-- Settles O57: the rows as `combine` has them, and the blend as a weighted mean of sum 16. -/
theorem outputsAndGrades : Obligations.OutputsAndGrades := by
  refine ⟨fun x t w k _ => ?_, fun x w => ⟨combine_spatial x w _, combine_spatial x w _⟩, combine_temporal,
    combine_neither, fun t s => ⟨blend_sixteen t s, blend_zero t s⟩, fun _ t s hw => blend_between hw t s, fun _ t s hw ht hs => ?_⟩
  · rw [combine_both, blendGrade_eq]
    rfl
  · exact (blend_between hw t s).2.trans (Nat.max_le.mpr ⟨ht, hs⟩)

end Sys2Proof.Conceal
end

section
/-! PROOFS. Frame reports, quality and counters (section 8): the counter block of READ COUNTERS, the effective thresholds and the
quality index, and what a report does to RQ and the recovery count. -/

namespace Sys2Proof.Machine

/-! ### Four-byte fields of a reply (R169) -/

@[simp] theorem field32_length (v : BitVec 32) : (field32 v).length = 4 := rfl

@[simp] theorem payloadByte_append_add (p q : List Byte) (k : Nat) :
    payloadByte (p ++ q) (p.length + k) = payloadByte q k := by
  simp [payloadByte, List.getElem?_append_right]

/-- Reading at an offset past a run of bytes reads what comes after them. -/
theorem payload32_append_add (p q : List Byte) (k : Nat) : payload32 (p ++ q) (p.length + k) = payload32 q k := by
  simp [payload32, payload16, Nat.add_assoc]

/-- A four-byte field reads back as the value it was formed from. -/
theorem payload32_field32 (v : BitVec 32) (q : List Byte) : payload32 (field32 v ++ q) 0 = v := by
  show v.extractLsb' 24 8 ++ v.extractLsb' 16 8 ++ (v.extractLsb' 8 8 ++ v.extractLsb' 0 8) = v
  rw [BitVec.extractLsb'_append_extractLsb'_eq_extractLsb' (by rfl),
    BitVec.extractLsb'_append_extractLsb'_eq_extractLsb' (by rfl),
    BitVec.extractLsb'_append_extractLsb'_eq_extractLsb' (by rfl), BitVec.extractLsb'_eq_self]

/-- A list of numbers written as four-byte fields has number k at byte 4k. -/
theorem payload32_flatMap_nat32 (l : List Nat) (k : Nat) :
    payload32 (l.flatMap nat32) (4 * k) = BitVec.ofNat 32 (l.getD k 0) := by
  induction l generalizing k with
  | nil => simp [payload32, payload16, payloadByte]
  | cons n rest ih =>
    rw [List.flatMap_cons]
    cases k with
    | zero => exact payload32_field32 _ _
    | succ k =>
      have skip := payload32_append_add (nat32 n) (rest.flatMap nat32) (4 * k)
      rw [Nat.mul_succ, Nat.add_comm, List.getD_cons_succ, ← ih k, ← skip]
      rfl

/-! ### READ COUNTERS (R158, R175) -/

theorem counterBytes_length (n : Counters) : (counterBytes n).length = 64 := rfl

/-- READ COUNTERS takes its snapshot before its clear. -/
theorem exec_readCounters {s : State} {t : Transaction} (h : awaitsRequest s t) (arg : Byte) :
    exec (.readCounters arg) s = .next
      { afterTake s t false .taken (counterBytes s.reports.counters) with
        reports := if arg.getLsbD 0 then { s.reports with counters := .zero } else s.reports } := by
  show Host.Outcome.next (s.onDevice (clockRequest 0x07 arg [] (readCounters arg))) = _
  rw [State.onDevice, clockRequest_awaits h, reloadLockHeld_eq, readCounters, goodRequest_awaits h _ _ (by split <;> rfl)]
  split <;> rfl

/-! ### The effective thresholds and the quality index (R149) -/

/-- The effective thresholds are the running maxima of the thresholds. -/
theorem effectiveFrom_eq_map_foldl (m : Nat) (l : List Nat) :
    effectiveFrom m l = (List.range l.length).map fun j => (l.take (j + 1)).foldl max m := by
  induction l generalizing m with
  | nil => rfl
  | cons t rest ih => simp [effectiveFrom, ih, List.range_succ_eq_map]

/-- The thresholds met are the places whose running maximum the impairment reaches. -/
theorem thresholdsMet_eq_filter_range (t : Thresholds) (imp : Nat) :
    thresholdsMet t imp =
      ((List.range 7).filter fun j => decide (((thresholdList t).take (j + 1)).foldl max 0 ≤ imp)).length := by
  rw [thresholdsMet, effectiveFrom_eq_map_foldl, List.filter_map, List.length_map]
  rfl

/-- An OVERWRITTEN report has quality 0. -/
@[simp] theorem qualityIndex_overwritten (t : Thresholds) (imp : Nat) : qualityIndex t imp .overwritten = 0 := rfl

/-- Any other report has 7 less the thresholds met. -/
theorem qualityIndex_of_ne {k : EndKind} (h : k ≠ .overwritten) (t : Thresholds) (imp : Nat) :
    qualityIndex t imp k = 7 - thresholdsMet t imp := if_neg h

/-! ### RQ and the recovery count (R151) -/

theorem qualityAfter_of_lt {rq q : Nat} (h : q < rq) (recoveryFrames count : Nat) :
    qualityAfter recoveryFrames rq count q = (q, 0) := if_pos h

theorem qualityAfter_self (recoveryFrames count q : Nat) : qualityAfter recoveryFrames q count q = (q, 0) := by
  simp [qualityAfter]

/-- Short of the recovery frames a better report counts. -/
theorem qualityAfter_counts {recoveryFrames rq count q : Nat} (h : rq < q) (hc : count + 1 < recoveryFrames) :
    qualityAfter recoveryFrames rq count q = (rq, count + 1) := by
  simp [qualityAfter, h.not_gt, h.ne', hc]

/-- At the recovery frames a better report raises RQ by one. -/
theorem qualityAfter_rises {recoveryFrames rq count q : Nat} (h : rq < q) (hc : recoveryFrames ≤ count + 1) :
    qualityAfter recoveryFrames rq count q = (rq + 1, 0) := by
  simp [qualityAfter, h.not_gt, h.ne', hc.not_gt]

/-- All that a report's quality changes (R150 to R153). -/
theorem foldQuality_eq (q : Nat) (d : Device) {rq count : Nat}
    (h : qualityAfter d.control.repair.recovery d.reports.runQuality d.reports.recovery q = (rq, count)) :
    foldQuality q d = { d with
      reports := { d.reports with runQuality := rq, recovery := count, lastQuality := q,
                                  worstQuality := min d.reports.worstQuality q },
      link := { d.link with causes :=
        if rq < d.reports.runQuality ∧ rq < d.control.repair.alarm then d.link.causes ||| 16 else d.link.causes } } := by
  by_cases low : rq < d.reports.runQuality ∧ rq < d.control.repair.alarm
  · simp [foldQuality, h, low, raise, causeBit]
  · simp [foldQuality, h, low]

end Sys2Proof.Machine

namespace Sys2Proof.Reporting

open Sys2Proof.Machine

/-- Settles O24: the reply is the counter block as it stood before the clear. -/
theorem readCountersReplies : Obligations.ReadCountersReplies := by
  intro arg s t h
  refine ⟨counterBytes s.reports.counters, counterBytes_length _, fun k _ => payload32_flatMap_nat32 _ k, ?_, ?_⟩
  · intro keep
    rw [exec_readCounters h, keep]
    rfl
  · intro clear
    rw [exec_readCounters h, clear]
    rfl

/-- Settles O25: `buildReport` takes In from `impairment` and Q from `qualityIndex`, whose thresholds are running maxima. -/
theorem impairmentAndQualityIndex : Obligations.ImpairmentAndQualityIndex := by
  intro d e
  refine ⟨_, _, _, rfl, rfl, rfl, rfl, ?_, ?_⟩
  · intro overwritten
    simp [buildReport, overwritten]
  · intro other
    exact (qualityIndex_of_ne other _ _).trans (congrArg (7 - ·) (thresholdsMet_eq_filter_range _ _))

/-- Settles O26: the rows of R151 are those of `qualityAfter`, the rest is `foldQuality_eq`. -/
theorem runQualityFollowsReports : Obligations.RunQualityFollowsReports := by
  intro q d
  rcases after : qualityAfter d.control.repair.recovery d.reports.runQuality d.reports.recovery q with ⟨rq, count⟩
  refine ⟨rq, count, ?_, ?_, ?_, ?_, foldQuality_eq q d after⟩
  · intro lower
    exact Prod.mk.inj (after.symm.trans (qualityAfter_of_lt lower _ _))
  · intro same
    subst same
    exact Prod.mk.inj (after.symm.trans (qualityAfter_self _ _ _))
  · intro higher short
    exact Prod.mk.inj (after.symm.trans (qualityAfter_counts higher short))
  · intro higher reached
    exact Prod.mk.inj (after.symm.trans (qualityAfter_rises higher reached))

end Sys2Proof.Reporting
end

section
/-! PROOFS. Run control and the maintenance link (section 9): the geometry checks of ARM, an ARM accepted, refused and out of its place,
and the attention line. -/

namespace Sys2Proof.Machine

/-! ### The geometry checks (R165) -/

/-- The refusal reason is the number of the first check that fails, 0 when none does. -/
theorem geometryRefusal_eq_find? (g : Geometry) [DecidablePred (passesCheck g)] :
    geometryRefusal g = ((List.range' 1 8).find? fun n => !decide (passesCheck g n)).getD 0 := by
  have slots : (g.slots < 4 ∨ 64 < g.slots) ↔ ¬ passesCheck g 1 := by
    simp only [passesCheck]
    omega
  have samples : (g.samples < 16 ∨ 4096 < g.samples ∨ g.samples % 2 = 1) ↔ ¬ passesCheck g 2 := by
    simp only [passesCheck]
    omega
  have linePitch : (g.linePitch % 16 ≠ 0 ∨ g.linePitch < 2 * g.samples + 8 ∨ 16384 < g.linePitch) ↔ ¬ passesCheck g 3 := by
    simp only [passesCheck]
    omega
  have lines : (g.lines < 8 ∨ 2048 < g.lines ∨ g.scan = .interleaved ∧ g.lines % 2 = 1) ↔ ¬ passesCheck g 4 := by
    simp only [passesCheck]
    grind
  have slotPitch : (g.slotPitch % 4096 ≠ 0 ∨ g.slotPitch < g.lines * g.linePitch) ↔ ¬ passesCheck g 5 := by
    simp only [passesCheck]
    omega
  have base : g.base % 4096 ≠ 0 ↔ ¬ passesCheck g 6 := Iff.rfl
  have ring : Config.memorySize < g.base + g.slots * g.slotPitch ↔ ¬ passesCheck g 7 := Nat.not_le.symm
  have range : (g.hi ≤ g.lo ∨ 1023 < g.hi) ↔ ¬ passesCheck g 8 := by
    simp only [passesCheck]
    omega
  simp only [geometryRefusal, slots, samples, linePitch, lines, slotPitch, base, ring, range, List.range', List.find?]
  split_ifs <;> simp [*]

/-- Valid geometry passes every check. -/
theorem passesCheck_of_valid {g : Geometry} (valid : GeometryValid g) (n : Nat) : passesCheck g n := by
  obtain ⟨slots, samples, linePitch, lines, slotPitch, base, ring, range⟩ := valid
  unfold passesCheck
  split
  case h_9 => trivial
  all_goals assumption

theorem geometryRefusal_of_valid {g : Geometry} (valid : GeometryValid g) : geometryRefusal g = 0 := by
  classical
  have noFailure : (List.range' 1 8).find? (fun k => !decide (passesCheck g k)) = none :=
    List.find?_range'_eq_none.mpr fun k _ _ => by simpa using passesCheck_of_valid valid k
  rw [geometryRefusal_eq_find?, noFailure, Option.getD_none]

theorem geometryRefusal_of_firstFailure {g : Geometry} {n : Nat} (low : 1 ≤ n) (high : n ≤ 8) (fails : ¬ passesCheck g n)
    (before : ∀ k, k < n → passesCheck g k) : geometryRefusal g = n := by
  classical
  have first : (List.range' 1 8).find? (fun k => !decide (passesCheck g k)) = some n :=
    List.find?_range'_eq_some.mpr
      ⟨by simpa using fails, List.mem_range'_1.mpr ⟨low, by omega⟩, fun j _ hj => by simpa using before j hj⟩
  rw [geometryRefusal_eq_find?, first, Option.getD_some]

/-! ### ARM (R165 to R167, R171) -/

theorem armRequest_of_valid {d : Device} (off : d.control.run = .off) (valid : GeometryValid (stagedGeometry d.control.staged)) :
    armRequest d = goodRequest [] (armPart d) := by
  simp [armRequest, off, geometryRefusal_of_valid valid]

theorem armRequest_of_refusal {d : Device} {n : Nat} (off : d.control.run = .off)
    (reason : geometryRefusal (stagedGeometry d.control.staged) = n) (failed : n ≠ 0) :
    armRequest d = goodRequest [] (refuseArm n d) := by
  simp [armRequest, off, reason, failed]

theorem armRequest_of_not_off {d : Device} (run : d.control.run ≠ .off) : armRequest d = badRequest d := if_neg run

/-- ARM meets the part after LOCK_HELD's reload. -/
theorem exec_arm {s : State} {t : Transaction} (h : awaitsRequest s t) (arg : Byte) :
    exec (.arm arg) s = .next
      { toDevice := armRequest { s.toDevice with ring := { s.ring with lockHeld := lockHeldAfter t s } }, pending := s.pending } := by
  rw [exec_of_guard (c := .arm arg) trivial, State.onDevice, effect, clockRequest_awaits h, reloadLockHeld_eq]

/-! ### The attention line (R178) -/

theorem atnAsserted_iff (d : Device) :
    atnAsserted d = true ↔ ∃ k, k < 10 ∧ d.link.causes.getLsbD k = true ∧ d.link.enables.getLsbD k = true := by
  simp [atnAsserted, attention, BitVec.eq_of_getLsbD_eq_iff]

theorem atnAsserted_of_enables_zero {d : Device} (h : d.link.enables = 0) : atnAsserted d = false := by
  simp [atnAsserted, attention, h]

/-- Bit 11 of the status word is ATTN (section 10.2). -/
theorem statusWord_attn (d : Device) : (statusWord d).getLsbD 11 = atnAsserted d := by
  simp only [statusWord, BitVec.getLsbD_append]
  simp [atnAsserted]

/-- Reset clears the enables, and no grant to a waiting claim sets one. -/
theorem resetPart_enables (d : Device) : (resetPart d).link.enables = 0 := by
  simp only [resetPart, arbitrate_enables]
  rfl

end Sys2Proof.Machine

namespace Sys2Proof.RunControl

open Sys2Proof.Machine

/-- Settles O19: no check fails, so ARM is `armPart` with a good request's take. -/
theorem armIsAccepted : Obligations.ArmIsAccepted := by
  intro arg s t h off valid
  refine ⟨.empty, rfl, rfl, rfl, ?_⟩
  rw [exec_arm h, armRequest_of_valid (by exact off) (by exact valid), goodRequest_awaits h _ _ (by rfl)]
  rfl

/-- Settles O20: the reason is the first check that fails; outside OFF the request is a bad one. -/
theorem armIsRefused : Obligations.ArmIsRefused := by
  intro arg s t h
  constructor
  · intro n off low high fails before
    have reason := geometryRefusal_of_firstFailure low high fails before
    refine ⟨_, exec_arm h arg, ?_⟩
    rw [armRequest_of_refusal (by exact off) (by exact reason) (by omega), goodRequest_awaits h _ _ (by rfl)]
    exact ⟨rfl, rfl, rfl⟩
  · intro run
    rw [exec_arm h, armRequest_of_not_off (by exact run), badRequest_awaits h _ (by rfl)]
    rfl

/-- Settles O31: a common bit of causes and enables, captured as bit 11, and gone with the enables that reset clears. -/
theorem attentionLineFollowsCauses : Obligations.AttentionLineFollowsCauses := by
  refine ⟨atnAsserted_iff, fun s t h => ?_, fun s t h => ?_⟩
  · obtain ⟨-, rfl⟩ := exec_next h
    exact ⟨_, rfl, statusWord_attn _⟩
  · obtain ⟨-, rfl⟩ := exec_next h
    exact ⟨resetPart_enables _, atnAsserted_of_enables_zero (resetPart_enables _)⟩

end Sys2Proof.RunControl
end

section
/-! PROOFS. The damage map's recording (R63 to R72): what one recording does to a slot's list, said once as a choice among a few list
changes (`Recording`), and what follows for the form of R63. -/

namespace Sys2Proof.Machine

/-! ### The form of R63 -/

/-- A span's lines are in order and not all of them are absorbed ones (R61, R66). -/
def SpanWf (p : Span) : Prop := p.first ≤ p.last ∧ p.absorbed ≤ p.last - p.first

/-- Spans p and q, in this order, neither overlap nor touch (R63). -/
def Apart (p q : Span) : Prop := p.last + 1 < q.first

theorem spanListWf_iff (l : List Span) :
    SpanListWf l ↔ l.Pairwise Apart ∧ (∀ p ∈ l, SpanWf p) ∧ l.length ≤ 24 := Iff.rfl

theorem spanListWf_nil : SpanListWf [] := by simp [SpanListWf]

/-- Spans changed one by one, with their lines as they were and no more lines absorbed, keep the form of R63. -/
theorem spanListWf_map {l : List Span} {f : Span → Span} (h : SpanListWf l)
    (hf : ∀ p, (f p).first = p.first ∧ (f p).last = p.last ∧ (f p).absorbed ≤ p.absorbed) : SpanListWf (l.map f) := by
  obtain ⟨apart, each, few⟩ := h
  refine ⟨List.pairwise_map.2 (apart.imp fun {p q} hpq => ?_), fun p hp => ?_, by simpa using few⟩
  · rw [(hf p).2.1, (hf q).1]; exact hpq
  · obtain ⟨q, hq, rfl⟩ := List.mem_map.1 hp
    obtain ⟨h1, h2, h3⟩ := hf q
    obtain ⟨h4, h5⟩ := each q hq
    rw [h1, h2]
    exact ⟨h4, h3.trans h5⟩

/-- The spans m of a list replaced by one span n that keeps apart from the others. -/
theorem spanListWf_replace {x m y : List Span} {n : Span} (h : SpanListWf (x ++ m ++ y)) (hx : ∀ p ∈ x, Apart p n)
    (hy : ∀ p ∈ y, Apart n p) (hn : SpanWf n) (few : (x ++ y).length < 24) : SpanListWf (x ++ n :: y) := by
  simp only [spanListWf_iff, List.pairwise_append, List.pairwise_cons, List.mem_append, List.mem_cons, List.length_append,
    List.length_cons, List.append_assoc] at h few ⊢
  obtain ⟨⟨px, ⟨pm, py, hmy⟩, hxmy⟩, each, -⟩ := h
  refine ⟨⟨px, ⟨hy, py⟩, ?_⟩, ?_, by omega⟩
  · rintro a ha b (rfl | hb)
    · exact hx a ha
    · exact hxmy a ha b (.inr hb)
  · rintro p (hp | rfl | hp)
    · exact each p (.inl hp)
    · exact hn
    · exact each p (.inr (.inr hp))

/-! ### What a recording can do -/

/-- What a recording of line i can do to a slot's list (R65 to R72): the line lies in a span; it joins two spans; it, and the clean
lines between, join the span above or the span below; it is a span of its own, taken from the pool or from two neighbours that are
merged first; or it is lost. `x` and `y` are spans that it leaves alone. -/
inductive Recording (free : Bool) (i : Nat) (c : Causes) (first : Bool) : List Span → Recorded → Prop
  | inside {l : List Span} : l.any (holdsLine i) = true →
      Recording free i c first l { spans := l.map (recordInside i c first), absorbed := 0, lost := false }
  | join {x y : List Span} {p q : Span} : p.last + 1 = i → q.first = i + 1 →
      Recording free i c first (x ++ [p, q] ++ y) { spans := x ++ mergeSpans p q 0 c :: y, absorbed := 0, lost := false }
  | down {x y : List Span} {p : Span} : p.last < i → (∀ q ∈ y, i + 1 < q.first) →
      Recording free i c first (x ++ [p] ++ y)
        { spans := x ++ stretchDown p i (i - p.last - 1) c :: y, absorbed := i - p.last - 1, lost := false }
  | up {x y : List Span} {q : Span} : i < q.first → (∀ p ∈ x, p.last + 1 < i) →
      Recording free i c first (x ++ [q] ++ y)
        { spans := x ++ stretchUp q i (q.first - i - 1) c :: y, absorbed := q.first - i - 1, lost := false }
  | alone {x y : List Span} : free = true → (x ++ y).length < 24 → (∀ p ∈ x, p.last + 1 < i) → (∀ q ∈ y, i + 1 < q.first) →
      Recording free i c first (x ++ y) { spans := x ++ newSpan i c :: y, absorbed := 0, lost := false }
  | above {x y z : List Span} {p q : Span} : (∀ r ∈ x ++ [p, q] ++ y, r.last + 1 < i) → (∀ r ∈ z, i + 1 < r.first) →
      Recording free i c first (x ++ [p, q] ++ y ++ z)
        { spans := (x ++ mergeSpans p q (q.first - p.last - 1) .nil :: y) ++ newSpan i c :: z,
          absorbed := q.first - p.last - 1, lost := false }
  | below {x y z : List Span} {p q : Span} : (∀ r ∈ z, r.last + 1 < i) → (∀ r ∈ x ++ [p, q] ++ y, i + 1 < r.first) →
      Recording free i c first (z ++ (x ++ [p, q] ++ y))
        { spans := z ++ newSpan i c :: (x ++ mergeSpans p q (q.first - p.last - 1) .nil :: y),
          absorbed := q.first - p.last - 1, lost := false }
  | lost : free = false → Recording free i c first [] { spans := [], absorbed := 0, lost := true }

/-! ### Two neighbours merged -/

/-- Two neighbours of a list in the form of R63, merged across the clean lines between them. -/
theorem spanListWf_merge {x y : List Span} {p q : Span} {c : Causes} {gap : Nat} (h : SpanListWf (x ++ [p, q] ++ y))
    (hg : gap ≤ q.first - p.last - 1) : SpanListWf (x ++ mergeSpans p q gap c :: y) := by
  have h' := h
  simp only [spanListWf_iff, List.pairwise_append, List.pairwise_cons, List.mem_append, List.mem_cons, List.length_append,
    List.length_cons, List.append_assoc, List.not_mem_nil, or_false] at h'
  obtain ⟨⟨-, ⟨⟨hpq, -⟩, -, hmy⟩, hxmy⟩, each, few⟩ := h'
  have wp := each p (.inr (.inl (.inl rfl)))
  have wq := each q (.inr (.inl (.inr rfl)))
  have apart := hpq q rfl
  simp only [Apart, SpanWf] at *
  refine spanListWf_replace h (fun r hr => ?_) (fun r hr => ?_) ?_ (by simp at few ⊢; omega)
  · exact hxmy r hr p (.inl (.inl rfl))
  · exact hmy q (.inr rfl) r hr
  · simp only [SpanWf, mergeSpans]
    omega

theorem recordInside_first (i : Nat) (c : Causes) (first : Bool) (p : Span) : (recordInside i c first p).first = p.first := by
  unfold recordInside; split <;> rfl

theorem recordInside_last (i : Nat) (c : Causes) (first : Bool) (p : Span) : (recordInside i c first p).last = p.last := by
  unfold recordInside; split <;> rfl

theorem recordInside_absorbed_le (i : Nat) (c : Causes) (first : Bool) (p : Span) :
    (recordInside i c first p).absorbed ≤ p.absorbed := by
  unfold recordInside
  split
  · cases first <;> simp
  · exact le_rfl

/-- A line by itself among spans that keep apart from it. -/
theorem spanListWf_alone {x y : List Span} {i : Nat} {c : Causes} (h : SpanListWf (x ++ y)) (few : (x ++ y).length < 24)
    (hx : ∀ p ∈ x, p.last + 1 < i) (hy : ∀ q ∈ y, i + 1 < q.first) : SpanListWf (x ++ newSpan i c :: y) :=
  spanListWf_replace (m := []) (by simpa using h) hx hy ⟨le_rfl, Nat.zero_le _⟩ few

/-- A recording keeps the form of R63. -/
theorem Recording.spanListWf {free : Bool} {i : Nat} {c : Causes} {first : Bool} {l : List Span} {r : Recorded}
    (h : Recording free i c first l r) (wf : SpanListWf l) : SpanListWf r.spans := by
  cases h with
  | inside _ =>
    exact spanListWf_map wf fun p =>
      ⟨recordInside_first i c first p, recordInside_last i c first p, recordInside_absorbed_le i c first p⟩
  | join hp hq => exact spanListWf_merge wf (Nat.zero_le _)
  | @down x y p hp hy =>
    have wf' := wf
    simp only [spanListWf_iff, List.pairwise_append, List.mem_append, List.length_append, List.mem_singleton,
      List.length_singleton] at wf'
    obtain ⟨⟨⟨-, -, hxp⟩, -, -⟩, each, few⟩ := wf'
    obtain ⟨w1, w2⟩ := each p (.inl (.inr rfl))
    refine spanListWf_replace wf (fun r hr => hxp r hr p rfl) hy ⟨?_, ?_⟩ (by simp; omega) <;> simp [stretchDown] <;> omega
  | @up x y q hq hx =>
    have wf' := wf
    simp only [spanListWf_iff, List.pairwise_append, List.mem_append, List.length_append, List.mem_singleton,
      List.length_singleton] at wf'
    obtain ⟨⟨-, -, hqy⟩, each, few⟩ := wf'
    obtain ⟨w1, w2⟩ := each q (.inl (.inr rfl))
    refine spanListWf_replace wf hx (fun r hr => hqy q (.inr rfl) r hr) ⟨?_, ?_⟩ (by simp; omega) <;> simp [stretchUp] <;> omega
  | alone _ few hx hy => exact spanListWf_alone wf few hx hy
  | @above x y z p q ha hz =>
    have few := wf.2.2
    rw [show x ++ [p, q] ++ y ++ z = x ++ [p, q] ++ (y ++ z) by simp] at wf
    have merged := spanListWf_merge (c := .nil) wf (le_refl (q.first - p.last - 1))
    refine spanListWf_alone (by simpa using merged) (by simp [Config.spanLimit] at few ⊢; omega) (fun r hr => ?_) hz
    simp only [List.mem_append, List.mem_cons] at hr ha
    rcases hr with hr | rfl | hr
    · exact ha r (by simp [hr])
    · exact ha q (by simp)
    · exact ha r (by simp [hr])
  | @below x y z p q hz ha =>
    have few := wf.2.2
    rw [show z ++ (x ++ [p, q] ++ y) = (z ++ x) ++ [p, q] ++ y by simp] at wf
    have merged := spanListWf_merge (c := .nil) wf (le_refl (q.first - p.last - 1))
    refine spanListWf_alone (by simpa using merged) (by simp [Config.spanLimit] at few ⊢; omega) hz (fun r hr => ?_)
    simp only [List.mem_append, List.mem_cons] at hr ha
    rcases hr with hr | rfl | hr
    · exact ha r (by simp [hr])
    · exact ha p (by simp)
    · exact ha r (by simp [hr])
  | lost _ => exact spanListWf_nil

/-- A recording takes one record at most, and only if one is free (R68, R71). -/
theorem Recording.length_le {free : Bool} {i : Nat} {c : Causes} {first : Bool} {l : List Span} {r : Recorded}
    (h : Recording free i c first l r) : r.spans.length ≤ l.length ∨ free = true ∧ r.spans.length = l.length + 1 := by
  cases h with
  | alone free _ _ _ => exact .inr ⟨free, by simp; omega⟩
  | _ => left; simp <;> omega

/-! ### The spans above and below a line -/

/-- The spans above line i (R67, R69). -/
def spansAbove (l : List Span) (i : Nat) : List Span := l.filter fun p => decide (p.last < i)

/-- The spans below line i (R67, R69). -/
def spansBelow (l : List Span) (i : Nat) : List Span := l.filter fun p => decide (i < p.first)

theorem mem_spansAbove {l : List Span} {i : Nat} {p : Span} : p ∈ spansAbove l i ↔ p ∈ l ∧ p.last < i := by
  simp [spansAbove]

theorem mem_spansBelow {l : List Span} {i : Nat} {p : Span} : p ∈ spansBelow l i ↔ p ∈ l ∧ i < p.first := by
  simp [spansBelow]

/-- A line in no span stands between the spans above it and those below it. -/
theorem spansAbove_append_spansBelow {l : List Span} {i : Nat} (wf : SpanListWf l) (out : l.any (holdsLine i) = false) :
    spansAbove l i ++ spansBelow l i = l := by
  obtain ⟨apart, each, -⟩ := (spanListWf_iff l).1 wf
  clear wf
  induction l with
  | nil => rfl
  | cons p l ih =>
    obtain ⟨hp, hl⟩ := List.pairwise_cons.1 apart
    simp only [List.any_cons, Bool.or_eq_false_iff] at out
    have rest := ih out.2 hl fun q hq => each q (List.mem_cons_of_mem _ hq)
    have order := (each p List.mem_cons_self).1
    simp only [holdsLine, Bool.and_eq_false_iff, decide_eq_false_iff_not, not_le] at out
    by_cases h : p.last < i
    · have h' : ¬ i < p.first := by omega
      simpa [spansAbove, spansBelow, h, h'] using rest
    · have h' : i < p.first := by omega
      have none : spansAbove l i = [] := by
        refine List.filter_eq_nil_iff.2 fun q hq => ?_
        have := hp q hq
        have := (each q (List.mem_cons_of_mem _ hq)).1
        simp only [Apart] at *
        simp; omega
      rw [none, List.nil_append] at rest
      simp only [spansAbove, spansBelow] at none rest ⊢
      simp [h, h', none, rest]

/-! ### The smallest gap (R69) -/

theorem leastPlace_lt {l : List Nat} (h : l ≠ []) : leastPlace l < l.length := by
  induction l with
  | nil => exact absurd rfl h
  | cons a l ih =>
    cases l with
    | nil => simp [leastPlace]
    | cons b l =>
      have := ih (by simp)
      simp only [leastPlace]
      split <;> simp at this ⊢
      omega

/-- The place found holds a smallest number. -/
theorem getD_leastPlace_le {l : List Nat} {n : Nat} (h : n < l.length) : l.getD (leastPlace l) 0 ≤ l.getD n 0 := by
  induction l generalizing n with
  | nil => simp at h
  | cons a l ih =>
    cases l with
    | nil => simp at h; simp [h, leastPlace]
    | cons b l =>
      have first := ih (n := 0) (by simp)
      simp only [leastPlace]
      split
      · next le =>
        cases n with
        | zero => exact le_rfl
        | succ n => exact le.trans (ih (by simpa using h))
      · next le =>
        cases n with
        | zero => simp at le ⊢; omega
        | succ n => simpa using ih (n := n) (by simpa using h)

/-- Any place before it holds a larger one. -/
theorem getD_leastPlace_lt {l : List Nat} {n : Nat} (h : n < leastPlace l) : l.getD (leastPlace l) 0 < l.getD n 0 := by
  induction l generalizing n with
  | nil => simp [leastPlace] at h
  | cons a l ih =>
    cases l with
    | nil => simp [leastPlace] at h
    | cons b l =>
      simp only [leastPlace] at h ⊢
      split
      · next le => simp at le; simp [le] at h
      · next le =>
        rw [if_neg le] at h
        cases n with
        | zero => simp at le ⊢; omega
        | succ n => simpa using ih (n := n) (by omega)

theorem itemGaps_length (items : List (Nat × Nat)) : (itemGaps items).length = items.length - 1 := by
  induction items with
  | nil => rfl
  | cons a items ih =>
    cases items with
    | nil => rfl
    | cons b items => simp at ih; simp [itemGaps, ih]

theorem itemGaps_getD {items : List (Nat × Nat)} {n : Nat} (h : n + 1 < items.length) :
    (itemGaps items).getD n 0 = gapAfter items n := by
  induction items generalizing n with
  | nil => simp at h
  | cons a items ih =>
    cases items with
    | nil => simp at h
    | cons b items =>
      cases n with
      | zero => rfl
      | succ n => simpa [itemGaps, gapAfter] using ih (n := n) (by simpa using h)

/-- The gap between two neighbouring items. -/
theorem gapAfter_append (x y : List (Nat × Nat)) (a b : Nat × Nat) :
    gapAfter (x ++ a :: b :: y) x.length = b.1 - a.2 - 1 := by
  simp [gapAfter, List.getD_eq_getElem?_getD]

/-! ### Coarsening (R69, R70) -/

/-- A span's first and last line. -/
def extent (p : Span) : Nat × Nat := (p.first, p.last)

theorem coarsenItems_eq (above below : List Span) (i : Nat) :
    coarsenItems above below i = above.map extent ++ (i, i) :: below.map extent := rfl

/-- Spans at two neighbouring places, and their merging. -/
theorem mergePlace_split {k : Nat} {l : List Span} (h : k + 1 < l.length) : ∃ x p q y, l = x ++ [p, q] ++ y ∧ x.length = k ∧
    mergePlace k l = x ++ mergeSpans p q (q.first - p.last - 1) .nil :: y := by
  induction k generalizing l with
  | zero =>
    match l, h with
    | p :: q :: y, _ => exact ⟨[], p, q, y, rfl, rfl, rfl⟩
  | succ k ih =>
    match l, h with
    | r :: l, h =>
      obtain ⟨x, p, q, y, rfl, len, eq⟩ := ih (l := l) (by simpa using h)
      exact ⟨r :: x, p, q, y, rfl, by simp [len], by rw [mergePlace, eq]; rfl⟩

/-- Of the items of a coarsening, the two at places k and k + 1 have become one: a and b, which x and y stand before and after
(R69, R70). -/
def MergesPair (A B : List Span) (i : Nat) (c : Causes) (k : Nat) (r : Recorded) : Prop :=
  ∃ x a b y, coarsenItems A B i = x ++ a :: b :: y ∧ x.length = k ∧ r.absorbed = b.1 - a.2 - 1 ∧ r.lost = false ∧
    r.spans.map extent = x ++ (a.1, b.2) :: y ∧ ∀ free first, Recording free i c first (A ++ B) r

/-- The line joins the span above it. -/
theorem mergesPair_down {x B : List Span} {p : Span} {i : Nat} (c : Causes) (hp : p.last + 1 < i) (hB : ∀ q ∈ B, i + 1 < q.first) :
    MergesPair (x ++ [p]) B i c x.length
      { spans := x ++ stretchDown p i (i - p.last - 1) c :: B, absorbed := i - p.last - 1, lost := false } :=
  ⟨x.map extent, extent p, (i, i), B.map extent, by simp [coarsenItems_eq], by simp, rfl, rfl, by simp [extent, stretchDown],
    fun _ _ => .down (by omega) hB⟩

/-- The line joins the span below it. -/
theorem mergesPair_up {A y : List Span} {q : Span} {i : Nat} (c : Causes) (hA : ∀ p ∈ A, p.last + 1 < i) (hq : i + 1 < q.first) :
    MergesPair A (q :: y) i c A.length
      { spans := A ++ stretchUp q i (q.first - i - 1) c :: y, absorbed := q.first - i - 1, lost := false } :=
  ⟨A.map extent, (i, i), extent q, y.map extent, by simp [coarsenItems_eq], by simp, rfl, rfl, by simp [extent, stretchUp],
    fun free first => by simpa using Recording.up (free := free) (first := first) (y := y) (by omega) hA⟩

/-- Two spans above the line join. -/
theorem mergesPair_above {x y B : List Span} {p q : Span} {i : Nat} (c : Causes) (hA : ∀ r ∈ x ++ [p, q] ++ y, r.last + 1 < i)
    (hB : ∀ r ∈ B, i + 1 < r.first) : MergesPair (x ++ [p, q] ++ y) B i c x.length
      { spans := (x ++ mergeSpans p q (q.first - p.last - 1) .nil :: y) ++ newSpan i c :: B,
        absorbed := q.first - p.last - 1, lost := false } :=
  ⟨x.map extent, extent p, extent q, y.map extent ++ (i, i) :: B.map extent, by simp [coarsenItems_eq], by simp, rfl, rfl,
    by simp [extent, mergeSpans, newSpan], fun _ _ => .above hA hB⟩

/-- Two spans below the line join. -/
theorem mergesPair_below {A x y : List Span} {p q : Span} {i : Nat} (c : Causes) (hA : ∀ r ∈ A, r.last + 1 < i)
    (hB : ∀ r ∈ x ++ [p, q] ++ y, i + 1 < r.first) : MergesPair A (x ++ [p, q] ++ y) i c (A.length + 1 + x.length)
      { spans := A ++ newSpan i c :: (x ++ mergeSpans p q (q.first - p.last - 1) .nil :: y),
        absorbed := q.first - p.last - 1, lost := false } :=
  ⟨A.map extent ++ (i, i) :: x.map extent, extent p, extent q, y.map extent, by simp [coarsenItems_eq], by simp; omega, rfl, rfl,
    by simp [extent, mergeSpans, newSpan], fun _ _ => .below hA hB⟩

/-- The gap absorbed is the gap after the first of the two items. -/
theorem MergesPair.absorbed_eq {A B : List Span} {i : Nat} {c : Causes} {k : Nat} {r : Recorded} (h : MergesPair A B i c k r) :
    r.absorbed = gapAfter (coarsenItems A B i) k := by
  obtain ⟨x, a, b, y, items, rfl, absorbed, -⟩ := h
  rw [items, gapAfter_append, absorbed]

/-- Coarsening merges the pair of items with the smallest gap, the line being away from every span (R69, R70). -/
theorem recordCoarsening_merges {A B : List Span} {i : Nat} (c : Causes) (some : A ++ B ≠ [])
    (hA : ∀ p ∈ A, p.last + 1 < i) (hB : ∀ q ∈ B, i + 1 < q.first) :
    MergesPair A B i c (leastPlace (itemGaps (coarsenItems A B i))) (recordCoarsening A B i c) := by
  have len : (coarsenItems A B i).length = A.length + B.length + 1 := by simp [coarsenItems]; omega
  have lt : leastPlace (itemGaps (coarsenItems A B i)) < A.length + B.length := by
    have pos := List.length_pos_iff.2 some
    simp only [List.length_append] at pos
    have := leastPlace_lt (l := itemGaps (coarsenItems A B i)) (by rw [← List.length_pos_iff, itemGaps_length]; omega)
    rwa [itemGaps_length, len] at this
  unfold recordCoarsening
  simp only [itemGaps_getD (items := coarsenItems A B i) (n := leastPlace (itemGaps (coarsenItems A B i))) (by omega)]
  generalize leastPlace (itemGaps (coarsenItems A B i)) = k at lt ⊢
  by_cases h1 : k + 1 = A.length
  · rcases List.eq_nil_or_concat A with rfl | ⟨x, p, rfl⟩
    · simp at h1
    · rw [List.concat_eq_append] at *
      obtain rfl : k = x.length := by simpa using h1
      have merged := mergesPair_down (x := x) c (hA p (by simp)) hB
      rw [if_pos h1, ← merged.absorbed_eq]
      simpa using merged
  · by_cases h2 : k = A.length
    · cases B with
      | nil => simp at lt; omega
      | cons q y =>
        subst h2
        have merged := mergesPair_up (y := y) c hA (hB q (by simp))
        simpa [← merged.absorbed_eq] using merged
    · by_cases h3 : k + 1 < A.length
      · obtain ⟨x, p, q, y, rfl, rfl, eq⟩ := mergePlace_split h3
        have merged := mergesPair_above c hA hB
        simpa only [h1, h2, h3, if_false, if_true, eq, ← merged.absorbed_eq] using merged
      · obtain ⟨x, p, q, y, rfl, len, eq⟩ := mergePlace_split (l := B) (k := k - A.length - 1) (by omega)
        obtain rfl : k = A.length + 1 + x.length := by omega
        have merged := mergesPair_below c hA hB
        simpa only [h1, h2, h3, if_false, if_true, eq, ← merged.absorbed_eq] using merged

/-! ### Extension (R71) -/

/-- The span that the line, and the clean lines between, have joined (R71). -/
def stretchTo (i : Nat) (c : Causes) (q : Span) : Span :=
  { q with
    first := min q.first i, last := max q.last i, progress := if i < q.first then i else q.progress,
    causes := q.causes.union c, absorbed := q.absorbed + distanceTo i q }

theorem stretchTo_of_above {i : Nat} {c : Causes} {p : Span} (order : p.first ≤ p.last) (h : p.last < i) :
    stretchTo i c p = stretchDown p i (i - p.last - 1) c := by
  have h1 : min p.first i = p.first := by omega
  have h2 : max p.last i = i := by omega
  have h3 : ¬ i < p.first := by omega
  simp [stretchTo, stretchDown, distanceTo, h, h1, h2, h3]

theorem stretchTo_of_below {i : Nat} {c : Causes} {q : Span} (order : q.first ≤ q.last) (h : i < q.first) :
    stretchTo i c q = stretchUp q i (q.first - i - 1) c := by
  have h1 : min q.first i = i := by omega
  have h2 : max q.last i = q.last := by omega
  have h3 : ¬ q.last < i := by omega
  simp [stretchTo, stretchUp, distanceTo, h, h1, h2, h3]

/-- The span p of a list, with x before it and y after it, is the nearest to line i, of two as near the one above (R71). -/
structure Nearest (i : Nat) (x : List Span) (p : Span) (y : List Span) : Prop where
  above : ∀ q ∈ x, distanceTo i p ≤ distanceTo i q ∧ (distanceTo i q = distanceTo i p → p.last < i)
  below : ∀ q ∈ y, distanceTo i p ≤ distanceTo i q ∧ (distanceTo i q = distanceTo i p → p.last < i)

/-- Of two spans above the line the later one is nearer. -/
theorem distanceTo_lt_of_above {p r : Span} {i : Nat} (order : p.first ≤ p.last) (apart : Apart r p) (h : p.last + 1 < i) :
    distanceTo i p < distanceTo i r := by
  simp only [Apart] at apart
  simp only [distanceTo, show p.last < i by omega, show r.last < i by omega, if_true]
  omega

/-- Of two spans below the line the earlier one is nearer. -/
theorem distanceTo_lt_of_below {q r : Span} {i : Nat} (orderQ : q.first ≤ q.last) (orderR : r.first ≤ r.last) (apart : Apart q r)
    (h : i + 1 < q.first) : distanceTo i q < distanceTo i r := by
  simp only [Apart] at apart
  simp only [distanceTo, show ¬ q.last < i by omega, show ¬ r.last < i by omega, if_false]
  omega

/-- What extension does: the nearest span is stretched to the line, which is away from every span (R71). -/
theorem recordExtension_stretches {A B : List Span} {i : Nat} (c : Causes) (some : A ++ B ≠ []) (wf : SpanListWf (A ++ B))
    (hA : ∀ p ∈ A, p.last + 1 < i) (hB : ∀ q ∈ B, i + 1 < q.first) :
    ∃ x p y, A ++ B = x ++ p :: y ∧ Nearest i x p y ∧
      recordExtension A B i c = { spans := x ++ stretchTo i c p :: y, absorbed := distanceTo i p, lost := false } ∧
      ∀ free first, Recording free i c first (A ++ B) (recordExtension A B i c) := by
  obtain ⟨apart, each, -⟩ := (spanListWf_iff _).1 wf
  obtain ⟨apartA, apartB, -⟩ := List.pairwise_append.1 apart
  rcases List.eq_nil_or_concat A with rfl | ⟨x, p, rfl⟩
  · cases B with
    | nil => exact absurd rfl some
    | cons q y =>
      have hq := hB q (by simp)
      have order := each q (by simp)
      have far := List.pairwise_cons.1 apartB
      refine ⟨[], q, y, rfl, ⟨by simp, fun r hr => ?_⟩, ?_, fun free first => ?_⟩
      · have := distanceTo_lt_of_below order.1 (each r (by simp [hr])).1 (far.1 r hr) hq
        omega
      · rw [stretchTo_of_below order.1 (by omega)]
        have h1 : ¬ q.last < i := by have := order.1; omega
        simp [recordExtension, distanceTo, h1]
      · simpa [recordExtension] using Recording.up (free := free) (first := first) (x := []) (y := y) (c := c) (i := i) (q := q)
          (by omega) (by simp)
  · rw [List.concat_eq_append] at *
    have hp := hA p (by simp)
    have orderP := each p (by simp)
    have nearAbove : ∀ r ∈ x, distanceTo i p < distanceTo i r := fun r hr =>
      distanceTo_lt_of_above orderP.1 ((List.pairwise_append.1 apartA).2.2 r hr p (by simp)) hp
    cases B with
    | nil =>
      refine ⟨x, p, [], by simp, ⟨fun r hr => ⟨(nearAbove r hr).le, fun _ => by omega⟩, by simp⟩, ?_, fun free first => ?_⟩
      · rw [stretchTo_of_above orderP.1 (by omega)]
        simp [recordExtension, distanceTo, show p.last < i by omega]
      · simpa [recordExtension] using Recording.down (free := free) (first := first) (x := x) (y := []) (c := c) (i := i) (p := p)
          (by omega) (by simp)
    | cons q y =>
      have hq := hB q (by simp)
      have orderQ := each q (by simp)
      have nearBelow : ∀ r ∈ y, distanceTo i q < distanceTo i r := fun r hr =>
        distanceTo_lt_of_below orderQ.1 (each r (by simp [hr])).1 ((List.pairwise_cons.1 apartB).1 r hr) hq
      have dp : distanceTo i p = i - p.last - 1 := by simp [distanceTo, show p.last < i by omega]
      have dq : distanceTo i q = q.first - i - 1 := by
        have := orderQ.1
        simp [distanceTo, show ¬ q.last < i by omega]
      by_cases le : i - p.last - 1 ≤ q.first - i - 1
      · have eq : recordExtension (x ++ [p]) (q :: y) i c =
            { spans := x ++ stretchDown p i (i - p.last - 1) c :: q :: y, absorbed := i - p.last - 1, lost := false } := by
          simp [recordExtension, le]
        refine ⟨x, p, q :: y, by simp, ⟨fun r hr => ⟨(nearAbove r hr).le, fun _ => by omega⟩, fun r hr => ?_⟩, ?_, fun free first => ?_⟩
        · refine ⟨?_, fun _ => by omega⟩
          rcases List.mem_cons.1 hr with rfl | hr
          · omega
          · have := nearBelow r hr; omega
        · rw [eq, stretchTo_of_above orderP.1 (by omega), dp]
        · rw [eq]; exact .down (by omega) hB
      · have eq : recordExtension (x ++ [p]) (q :: y) i c =
            { spans := x ++ [p] ++ stretchUp q i (q.first - i - 1) c :: y, absorbed := q.first - i - 1, lost := false } := by
          simp [recordExtension, le]
        refine ⟨x ++ [p], q, y, by simp, ⟨fun r hr => ?_, fun r hr => ?_⟩, ?_, fun free first => ?_⟩
        · rcases List.mem_append.1 hr with hr | hr
          · have := nearAbove r hr; omega
          · rw [List.mem_singleton.1 hr]; omega
        · have := nearBelow r hr; omega
        · rw [eq, stretchTo_of_below orderQ.1 (by omega), dq]
        · rw [eq]
          simpa using Recording.up (free := free) (first := first) (y := y) (c := c) (i := i) (q := q) (by omega) hA

/-! ### Touching (R67) -/

/-- With no span above ending at the line, every span above is away from it. -/
theorem away_above {A : List Span} {i : Nat} (apart : A.Pairwise Apart) (order : ∀ p ∈ A, p.first ≤ p.last)
    (above : ∀ p ∈ A, p.last < i) (none : A.getLast?.filter (fun p => p.last + 1 == i) = none) : ∀ p ∈ A, p.last + 1 < i := by
  rcases List.eq_nil_or_concat A with rfl | ⟨x, q, rfl⟩
  · simp
  · rw [List.concat_eq_append] at *
    have hq := above q (by simp)
    have last : q.last + 1 ≠ i := by simpa using none
    intro p hp
    rcases List.mem_append.1 hp with hp | hp
    · have := (List.pairwise_append.1 apart).2.2 p hp q (by simp)
      have := order q (by simp)
      simp only [Apart] at *
      omega
    · rw [List.mem_singleton.1 hp]; omega

/-- With no span below starting after the line, every span below is away from it. -/
theorem away_below {B : List Span} {i : Nat} (apart : B.Pairwise Apart) (order : ∀ p ∈ B, p.first ≤ p.last)
    (below : ∀ q ∈ B, i < q.first) (none : B.head?.filter (fun q => q.first == i + 1) = none) : ∀ q ∈ B, i + 1 < q.first := by
  cases B with
  | nil => simp
  | cons p y =>
    have hp := below p (by simp)
    have head : p.first ≠ i + 1 := by simpa using none
    intro q hq
    rcases List.mem_cons.1 hq with rfl | hq
    · omega
    · have := (List.pairwise_cons.1 apart).1 q hq
      have := order p (by simp)
      simp only [Apart] at *
      omega

/-- A line that touches a span joins it, or joins the two spans that it touches (R67). -/
theorem recordTouching_some {A B l : List Span} {i : Nat} {c : Causes} (wf : SpanListWf (A ++ B)) (hA : ∀ p ∈ A, p.last < i)
    (hB : ∀ q ∈ B, i < q.first) (h : recordTouching A B i c = some l) (free first : Bool) :
    Recording free i c first (A ++ B) { spans := l, absorbed := 0, lost := false } := by
  obtain ⟨apart, each, -⟩ := (spanListWf_iff _).1 wf
  obtain ⟨apartA, apartB, -⟩ := List.pairwise_append.1 apart
  unfold recordTouching at h
  split at h
  · next p q hp hq =>
    obtain ⟨hp, tp⟩ := Option.filter_eq_some_iff.1 hp
    obtain ⟨hq, tq⟩ := Option.filter_eq_some_iff.1 hq
    obtain ⟨x, rfl⟩ := List.getLast?_eq_some_iff.1 hp
    obtain ⟨y, rfl⟩ := List.head?_eq_some_iff.1 hq
    obtain rfl := Option.some.inj h
    simpa using Recording.join (free := free) (first := first) (x := x) (y := y) (c := c) (beq_iff_eq.1 tp) (beq_iff_eq.1 tq)
  · next p hp hq =>
    obtain ⟨hp, tp⟩ := Option.filter_eq_some_iff.1 hp
    obtain ⟨x, rfl⟩ := List.getLast?_eq_some_iff.1 hp
    obtain rfl := Option.some.inj h
    have far := away_below apartB (fun q hq => (each q (by simp [hq])).1) hB hq
    simpa [← beq_iff_eq.1 tp] using Recording.down (free := free) (first := first) (x := x) (c := c) (hA p (by simp)) far
  · next q hp hq =>
    obtain ⟨hq, tq⟩ := Option.filter_eq_some_iff.1 hq
    obtain ⟨y, rfl⟩ := List.head?_eq_some_iff.1 hq
    obtain rfl := Option.some.inj h
    have far := away_above apartA (fun p hp => (each p (by simp [hp])).1) hA hp
    simpa [beq_iff_eq.1 tq] using Recording.up (free := free) (first := first) (y := y) (c := c) (hB q (by simp)) far
  · cases h

/-- A line that touches no span is away from every span. -/
theorem recordTouching_none {A B : List Span} {i : Nat} {c : Causes} (wf : SpanListWf (A ++ B)) (hA : ∀ p ∈ A, p.last < i)
    (hB : ∀ q ∈ B, i < q.first) (h : recordTouching A B i c = none) :
    (∀ p ∈ A, p.last + 1 < i) ∧ ∀ q ∈ B, i + 1 < q.first := by
  obtain ⟨apart, each, -⟩ := (spanListWf_iff _).1 wf
  obtain ⟨apartA, apartB, -⟩ := List.pairwise_append.1 apart
  unfold recordTouching at h
  split at h
  · cases h
  · cases h
  · cases h
  · next hp hq =>
    exact ⟨away_above apartA (fun p hp => (each p (by simp [hp])).1) hA hp,
      away_below apartB (fun q hq => (each q (by simp [hq])).1) hB hq⟩

/-- A line away from every span touches none. -/
theorem recordTouching_eq_none {A B : List Span} {i : Nat} (c : Causes) (hA : ∀ p ∈ A, p.last + 1 < i)
    (hB : ∀ q ∈ B, i + 1 < q.first) : recordTouching A B i c = none := by
  have h1 : A.getLast?.filter (fun p => p.last + 1 == i) = none := by
    simp only [Option.filter_eq_none_iff, beq_iff_eq]
    intro p hp
    have := hA p (List.mem_of_getLast? hp)
    omega
  have h2 : B.head?.filter (fun q => q.first == i + 1) = none := by
    simp only [Option.filter_eq_none_iff, beq_iff_eq]
    intro q hq
    have := hB q (List.mem_of_head? hq)
    omega
  simp [recordTouching, h1, h2]

/-! ### A recording -/

/-- A recording away from every span, by the room in the slot and in the pool (R65). -/
theorem recordLine_away {l : List Span} {i : Nat} (out : l.any (holdsLine i) = false) (free first : Bool)
    (c : Causes) (none : recordTouching (spansAbove l i) (spansBelow l i) i c = none) :
    recordLine l free i c first =
      if Config.spanLimit ≤ l.length then recordCoarsening (spansAbove l i) (spansBelow l i) i c
      else if free then { spans := spansAbove l i ++ newSpan i c :: spansBelow l i, absorbed := 0, lost := false }
      else recordExtension (spansAbove l i) (spansBelow l i) i c := by
  simp only [spansAbove, spansBelow] at none
  simp [recordLine, out, none, spansAbove, spansBelow]

/-- What a recording does to a list in the form of R63. -/
theorem recordLine_recording {l : List Span} (wf : SpanListWf l) (free : Bool) (i : Nat) (c : Causes) (first : Bool) :
    Recording free i c first l (recordLine l free i c first) := by
  by_cases inside : l.any (holdsLine i) = true
  · simpa [recordLine, inside] using Recording.inside (free := free) (c := c) (first := first) inside
  · have out : l.any (holdsLine i) = false := by simpa using inside
    have split := spansAbove_append_spansBelow wf out
    have hA : ∀ p ∈ spansAbove l i, p.last < i := fun p hp => (mem_spansAbove.1 hp).2
    have hB : ∀ q ∈ spansBelow l i, i < q.first := fun q hq => (mem_spansBelow.1 hq).2
    have wf' := wf
    rw [← split] at wf'
    cases touch : recordTouching (spansAbove l i) (spansBelow l i) i c with
    | some m =>
      have := recordTouching_some wf' hA hB touch free first
      rw [split] at this
      simp only [spansAbove, spansBelow] at touch
      simpa [recordLine, out, touch] using this
    | none =>
      obtain ⟨farA, farB⟩ := recordTouching_none wf' hA hB touch
      rw [recordLine_away out free first c touch]
      split_ifs with full room
      · have some : spansAbove l i ++ spansBelow l i ≠ [] := by
          rw [split]; rintro rfl; simp [Config.spanLimit] at full
        obtain ⟨-, -, -, -, -, -, -, -, -, step⟩ := recordCoarsening_merges c some farA farB
        simpa [split] using step free first
      · have := Recording.alone (first := first) (c := c) room (by rw [split]; simp [Config.spanLimit] at full; omega) farA farB
        simpa [split] using this
      · by_cases empty : l = []
        · subst empty
          exact .lost (by simpa using room)
        · obtain ⟨-, -, -, -, -, -, step⟩ := recordExtension_stretches c (by rwa [split]) wf' farA farB
          simpa [split] using step free first

end Sys2Proof.Machine
end

section
/-! PROOFS. What a recording keeps and adds (R65 to R72): the lines and causes of the spans, and the two sums over them; and, for a line
away from every span, which spans it is put with. -/

namespace Sys2Proof.Machine

/-! ### Cause sets -/

@[simp] theorem Causes.union_self (a : Causes) : a.union a = a := by simp [Causes.union]

@[simp] theorem Causes.union_union_left (a b : Causes) : a.union (a.union b) = a.union b := by
  simp [Causes.union]

@[simp] theorem Causes.union_union_right (a b : Causes) : b.union (a.union b) = a.union b := by
  simp [Causes.union, Bool.or_left_comm]

@[simp] theorem Causes.union_union_same (a b : Causes) : (a.union b).union b = a.union b := by
  simp [Causes.union]

theorem Causes.union_trans {a b c : Causes} (h1 : a.union b = b) (h2 : b.union c = c) : a.union c = c := by
  rw [← h2, ← h1]
  simp [Causes.union, Bool.or_assoc]

/-! ### Spans that take in others -/

theorem holdsLine_iff {k : Nat} {p : Span} : holdsLine k p = true ↔ p.first ≤ k ∧ k ≤ p.last := by simp [holdsLine]

/-- Span q holds the lines of span p and has its causes. -/
def Covers (q p : Span) : Prop := q.first ≤ p.first ∧ p.last ≤ q.last ∧ p.causes.union q.causes = q.causes

theorem covers_refl (p : Span) : Covers p p := ⟨le_rfl, le_rfl, Causes.union_self _⟩

theorem Covers.holdsLine {p q : Span} {k : Nat} (h : Covers q p) (hk : holdsLine k p = true) : holdsLine k q = true := by
  obtain ⟨h1, h2, -⟩ := h
  rw [holdsLine_iff] at *
  omega

theorem covers_recordInside (i : Nat) (c : Causes) (first : Bool) (p : Span) : Covers (recordInside i c first p) p := by
  refine ⟨(recordInside_first ..).le, (recordInside_last ..).ge, ?_⟩
  unfold recordInside
  split <;> simp

theorem covers_stretchDown {p : Span} {i gap : Nat} {c : Causes} (h : p.last ≤ i) : Covers (stretchDown p i gap c) p :=
  ⟨le_rfl, h, by simp [stretchDown]⟩

theorem covers_stretchUp {q : Span} {i gap : Nat} {c : Causes} (h : i ≤ q.first) : Covers (stretchUp q i gap c) q :=
  ⟨h, le_rfl, by simp [stretchUp]⟩

theorem covers_mergeSpans_left {p q : Span} {gap : Nat} {c : Causes} (h : p.last ≤ q.last) : Covers (mergeSpans p q gap c) p :=
  ⟨le_rfl, h, by simp [mergeSpans, Causes.union, ← Bool.or_assoc]⟩

theorem covers_mergeSpans_right {p q : Span} {gap : Nat} {c : Causes} (h : p.first ≤ q.first) : Covers (mergeSpans p q gap c) q :=
  ⟨h, le_rfl, by simp +contextual [mergeSpans, Causes.union]⟩

/-- The spans p and q of a list in the form of R63 are in order. -/
theorem order_of_spanListWf {x y : List Span} {p q : Span} (wf : SpanListWf (x ++ [p, q] ++ y)) :
    p.first ≤ p.last ∧ q.first ≤ q.last ∧ p.last + 1 < q.first := by
  obtain ⟨apart, each, -⟩ := (spanListWf_iff _).1 wf
  refine ⟨(each p (by simp)).1, (each q (by simp)).1, ?_⟩
  have h := (List.pairwise_append.1 (List.pairwise_append.1 apart).1).2.1
  exact (List.pairwise_cons.1 h).1 q (by simp)

/-- Two neighbours merged, every span of the list is taken in. -/
theorem covers_merge {x y : List Span} {p q : Span} {gap : Nat} {c : Causes} (wf : SpanListWf (x ++ [p, q] ++ y)) :
    ∀ r ∈ x ++ [p, q] ++ y, ∃ t ∈ x ++ mergeSpans p q gap c :: y, Covers t r := by
  obtain ⟨h1, h2, h3⟩ := order_of_spanListWf wf
  intro r hr
  simp only [List.mem_append, List.mem_cons, List.not_mem_nil, or_false] at hr
  rcases hr with (hr | rfl | rfl) | hr
  · exact ⟨r, by simp [hr], covers_refl r⟩
  · exact ⟨_, List.mem_append_cons_self, covers_mergeSpans_left (by omega)⟩
  · exact ⟨_, List.mem_append_cons_self, covers_mergeSpans_right (by omega)⟩
  · exact ⟨r, by simp [hr], covers_refl r⟩

/-- One span put in the place of one that it takes in. -/
theorem covers_put {x y : List Span} {p t : Span} (h : Covers t p) : ∀ r ∈ x ++ [p] ++ y, ∃ t' ∈ x ++ t :: y, Covers t' r := by
  intro r hr
  simp only [List.mem_append, List.mem_singleton] at hr
  rcases hr with (hr | rfl) | hr
  · exact ⟨r, by simp [hr], covers_refl r⟩
  · exact ⟨t, by simp, h⟩
  · exact ⟨r, by simp [hr], covers_refl r⟩

section
variable {free : Bool} {i : Nat} {c : Causes} {first : Bool} {l : List Span} {r : Recorded}

/-- Every span is taken in by one of the new list. -/
theorem Recording.covers (h : Recording free i c first l r) (wf : SpanListWf l) : ∀ p ∈ l, ∃ q ∈ r.spans, Covers q p := by
  cases h with
  | inside _ => exact fun p hp => ⟨_, List.mem_map_of_mem hp, covers_recordInside i c first p⟩
  | join _ _ => exact covers_merge wf
  | down hp _ => exact covers_put (covers_stretchDown hp.le)
  | up hq _ => exact covers_put (covers_stretchUp hq.le)
  | @alone x y =>
    intro p hp
    exact ⟨p, by simp only [List.mem_append, List.mem_cons] at *; tauto, covers_refl p⟩
  | @above x y z p q =>
    have wf' : SpanListWf (x ++ [p, q] ++ (y ++ z)) := by simpa using wf
    intro t ht
    obtain ⟨u, hu, cov⟩ := covers_merge (gap := q.first - p.last - 1) (c := .nil) wf' t (by simpa using ht)
    exact ⟨u, by simp only [List.mem_append, List.mem_cons] at *; tauto, cov⟩
  | @below x y z p q =>
    have wf' : SpanListWf ((z ++ x) ++ [p, q] ++ y) := by simpa using wf
    intro t ht
    obtain ⟨u, hu, cov⟩ := covers_merge (gap := q.first - p.last - 1) (c := .nil) wf' t (by simpa using ht)
    exact ⟨u, by simp only [List.mem_append, List.mem_cons] at *; tauto, cov⟩
  | lost _ => simp

/-- No recorded line leaves the spans. -/
theorem Recording.any_holdsLine (h : Recording free i c first l r) (wf : SpanListWf l) {k : Nat}
    (hk : l.any (holdsLine k) = true) : r.spans.any (holdsLine k) = true := by
  obtain ⟨p, hp, hold⟩ := List.any_eq_true.1 hk
  obtain ⟨q, hq, cov⟩ := h.covers wf p hp
  exact List.any_eq_true.2 ⟨q, hq, cov.holdsLine hold⟩

/-- A line is lost exactly in a slot with no span, with no record free (R72). -/
theorem Recording.lost_iff (h : Recording free i c first l r) : r.lost = true ↔ l = [] ∧ free = false := by
  cases h with
  | alone free _ _ _ => simp [free]
  | inside any => simp; rintro rfl; simp at any
  | lost free => simp [free]
  | _ => simp

/-- The line lies in a span that has its causes, unless it is lost. -/
theorem Recording.holds (h : Recording free i c first l r) (wf : SpanListWf l) (kept : r.lost = false) :
    ∃ p ∈ r.spans, holdsLine i p = true ∧ p.causes.union c = p.causes := by
  obtain ⟨-, each, -⟩ := (spanListWf_iff l).1 wf
  cases h with
  | inside any =>
    obtain ⟨p, hp, hold⟩ := List.any_eq_true.1 any
    exact ⟨_, List.mem_map_of_mem hp, (covers_recordInside i c first p).holdsLine hold, by simp [recordInside, hold]⟩
  | join hp hq =>
    obtain ⟨h1, h2, -⟩ := order_of_spanListWf wf
    exact ⟨_, List.mem_append_cons_self, by simp only [holdsLine_iff, mergeSpans]; omega, by simp [mergeSpans]⟩
  | @down x y p hp _ =>
    have := (each p (by simp)).1
    exact ⟨_, List.mem_append_cons_self, by simp only [holdsLine_iff, stretchDown]; omega, by simp [stretchDown]⟩
  | @up x y q hq _ =>
    have := (each q (by simp)).1
    exact ⟨_, List.mem_append_cons_self, by simp only [holdsLine_iff, stretchUp]; omega, by simp [stretchUp]⟩
  | lost _ => cases kept
  | _ => exact ⟨newSpan i c, by simp, by simp [holdsLine_iff, newSpan], by simp [newSpan]⟩

/-- The line and the lines absorbed on its account add themselves to the spans' lengths and absorbed counts (R67 to R71). -/
theorem Recording.sums (h : Recording free i c first l r) (wf : SpanListWf l) (out : l.any (holdsLine i) = false)
    (kept : r.lost = false) :
    (r.spans.map spanLength).sum = (l.map spanLength).sum + 1 + r.absorbed ∧
      (r.spans.map fun p => p.absorbed).sum = (l.map fun p => p.absorbed).sum + r.absorbed := by
  obtain ⟨-, each, -⟩ := (spanListWf_iff l).1 wf
  cases h with
  | inside any => simp [any] at out
  | join hp hq =>
    obtain ⟨h1, h2, -⟩ := order_of_spanListWf wf
    simp [spanLength, mergeSpans]; omega
  | @down x y p hp _ =>
    have := (each p (by simp)).1
    simp [spanLength, stretchDown]; omega
  | @up x y q hq _ =>
    have := (each q (by simp)).1
    simp [spanLength, stretchUp]; omega
  | alone _ _ _ _ => simp [spanLength, newSpan]; omega
  | @above x y z p q _ _ =>
    obtain ⟨h1, h2, h3⟩ := order_of_spanListWf (y := y ++ z) (by simpa using wf)
    simp [spanLength, mergeSpans, newSpan]; omega
  | @below x y z p q _ _ =>
    obtain ⟨h1, h2, h3⟩ := order_of_spanListWf (x := z ++ x) (by simpa using wf)
    simp [spanLength, mergeSpans, newSpan]; omega
  | lost _ => cases kept

/-- Where no line is absorbed the spans hold the lines they held and this one alone. -/
theorem Recording.exact (h : Recording free i c first l r) (wf : SpanListWf l) (none : r.absorbed = 0) (kept : r.lost = false)
    (k : Nat) : r.spans.any (holdsLine k) = (l.any (holdsLine k) || k == i) := by
  obtain ⟨-, each, -⟩ := (spanListWf_iff l).1 wf
  cases h with
  | inside any =>
    have same : ∀ p, holdsLine k (recordInside i c first p) = holdsLine k p := fun p => by
      simp [holdsLine, recordInside_first, recordInside_last]
    simp only [List.any_map, Function.comp_def, same]
    by_cases hk : k = i
    · simp [hk, any]
    · simp [hk]
  | @join x y p q hp hq =>
    obtain ⟨h1, h2, -⟩ := order_of_spanListWf wf
    have key : holdsLine k (mergeSpans p q 0 c) = (holdsLine k p || holdsLine k q || k == i) := by
      rw [Bool.eq_iff_iff]; simp only [Bool.or_eq_true, beq_iff_eq, holdsLine_iff, mergeSpans]; omega
    simp [key]; grind
  | @down x y p hp _ =>
    have := (each p (by simp)).1
    simp only at none
    have key : holdsLine k (stretchDown p i (i - p.last - 1) c) = (holdsLine k p || k == i) := by
      rw [Bool.eq_iff_iff]; simp only [Bool.or_eq_true, beq_iff_eq, holdsLine_iff, stretchDown]; omega
    simp [key]; grind
  | @up x y q hq _ =>
    have := (each q (by simp)).1
    simp only at none
    have key : holdsLine k (stretchUp q i (q.first - i - 1) c) = (holdsLine k q || k == i) := by
      rw [Bool.eq_iff_iff]; simp only [Bool.or_eq_true, beq_iff_eq, holdsLine_iff, stretchUp]; omega
    simp [key]; grind
  | alone _ _ _ _ =>
    have key : holdsLine k (newSpan i c) = (k == i) := by
      rw [Bool.eq_iff_iff]; simp only [beq_iff_eq, holdsLine_iff, newSpan]; omega
    simp [key]; grind
  | @above x y z p q _ _ =>
    obtain ⟨-, -, h3⟩ := order_of_spanListWf (y := y ++ z) (by simpa using wf)
    simp only at none
    omega
  | @below x y z p q _ _ =>
    obtain ⟨-, -, h3⟩ := order_of_spanListWf (x := z ++ x) (by simpa using wf)
    simp only at none
    omega
  | lost _ => cases kept

end

/-! ### A line away from every span (R68 to R71) -/

section
variable {l : List Span} {i : Nat} {c : Causes} {first : Bool}

/-- Every span of the list is away from line i. -/
def AwayFrom (i : Nat) (l : List Span) : Prop := ∀ p ∈ l, i + 1 < p.first ∨ p.last + 1 < i

theorem AwayFrom.out (h : AwayFrom i l) : l.any (holdsLine i) = false := by
  refine List.any_eq_false.2 fun p hp => ?_
  have := h p hp
  simp only [holdsLine, Bool.and_eq_true, decide_eq_true_eq]
  omega

theorem AwayFrom.above (h : AwayFrom i l) (wf : SpanListWf l) : ∀ p ∈ spansAbove l i, p.last + 1 < i := by
  intro p hp
  obtain ⟨hp, lt⟩ := mem_spansAbove.1 hp
  have := h p hp
  have := (wf.2.1 p hp).1
  omega

theorem AwayFrom.below (h : AwayFrom i l) (wf : SpanListWf l) : ∀ q ∈ spansBelow l i, i + 1 < q.first := by
  intro q hq
  obtain ⟨hq, lt⟩ := mem_spansBelow.1 hq
  have := h q hq
  have := (wf.2.1 q hq).1
  omega

theorem AwayFrom.recordLine_eq (h : AwayFrom i l) (wf : SpanListWf l) (free : Bool) :
    recordLine l free i c first =
      if Config.spanLimit ≤ l.length then recordCoarsening (spansAbove l i) (spansBelow l i) i c
      else if free then { spans := spansAbove l i ++ newSpan i c :: spansBelow l i, absorbed := 0, lost := false }
      else recordExtension (spansAbove l i) (spansBelow l i) i c :=
  recordLine_away h.out free first c (recordTouching_eq_none c (h.above wf) (h.below wf))

theorem itemsAround_eq (l : List Span) (i : Nat) : itemsAround l i = coarsenItems (spansAbove l i) (spansBelow l i) i := rfl

/-- With room in the slot and in the pool the line is a span by itself (R68). -/
theorem recordLine_alone (h : AwayFrom i l) (wf : SpanListWf l) (few : l.length < 24) :
    (recordLine l true i c first).absorbed = 0 ∧
      (recordLine l true i c first).spans.map (fun p => (p.first, p.last)) = itemsAround l i := by
  have few' : ¬ Config.spanLimit ≤ l.length := by simp [Config.spanLimit]; omega
  rw [h.recordLine_eq wf, if_neg few', if_pos rfl, itemsAround_eq, coarsenItems_eq]
  exact ⟨rfl, by simp [newSpan]; rfl⟩

/-- With 24 spans the pair of items with the smallest gap, of equals the first, is merged (R69, R70). -/
theorem recordLine_coarsens (h : AwayFrom i l) (wf : SpanListWf l) (full : l.length = 24) (free : Bool) :
    ∃ k, k < 24 ∧ (recordLine l free i c first).absorbed = gapAfter (itemsAround l i) k ∧
      (∀ n, n < 24 → gapAfter (itemsAround l i) k ≤ gapAfter (itemsAround l i) n) ∧
      (∀ n, n < k → gapAfter (itemsAround l i) k < gapAfter (itemsAround l i) n) ∧
      (recordLine l free i c first).spans.map (fun p => (p.first, p.last)) =
        (itemsAround l i).take k ++ (((itemsAround l i).getD k (0, 0)).1, ((itemsAround l i).getD (k + 1) (0, 0)).2) ::
          (itemsAround l i).drop (k + 2) := by
  have split := spansAbove_append_spansBelow wf h.out
  have len : (itemsAround l i).length = 25 := by
    rw [itemsAround_eq, coarsenItems_eq]
    have := congrArg List.length split
    simp at this ⊢
    omega
  have gaps : (itemGaps (itemsAround l i)).length = 24 := by rw [itemGaps_length, len]
  have lt : leastPlace (itemGaps (itemsAround l i)) < 24 := gaps ▸ leastPlace_lt (by rw [← List.length_pos_iff, gaps]; omega)
  have gap : ∀ n, n < 24 → (itemGaps (itemsAround l i)).getD n 0 = gapAfter (itemsAround l i) n :=
    fun n hn => itemGaps_getD (by omega)
  have merged := recordCoarsening_merges c (by rw [split]; rintro rfl; simp at full) (h.above wf) (h.below wf)
  rw [h.recordLine_eq wf, if_pos (by simp [Config.spanLimit, full])]
  rw [← itemsAround_eq] at merged
  refine ⟨_, lt, merged.absorbed_eq, fun n hn => ?_, fun n hn => ?_, ?_⟩
  · rw [← gap _ lt, ← gap n hn]
    exact getD_leastPlace_le (by omega)
  · rw [← gap _ lt, ← gap n (by omega)]
    exact getD_leastPlace_lt hn
  · obtain ⟨x, a, b, y, items, hx, -, -, eq, -⟩ := merged
    rw [← itemsAround_eq] at items
    rw [← hx, items, show (fun p : Span => (p.first, p.last)) = extent from rfl, eq]
    simp [List.getD_eq_getElem?_getD, List.drop_append]

/-- With no record free the nearest span is stretched to the line, of two as near the one above, and no other changes (R71). -/
theorem recordLine_extends (h : AwayFrom i l) (wf : SpanListWf l) (some : l ≠ []) (few : l.length < 24) :
    ∃ p ∈ l, (recordLine l false i c first).absorbed = distanceTo i p ∧ (∀ q ∈ l, distanceTo i p ≤ distanceTo i q) ∧
      (∀ q ∈ l, distanceTo i q = distanceTo i p → q = p ∨ p.last < i) ∧
      (recordLine l false i c first).spans = l.map fun q => if q = p then stretchTo i c q else q := by
  have split := spansAbove_append_spansBelow wf h.out
  have few' : ¬ Config.spanLimit ≤ l.length := by simp [Config.spanLimit]; omega
  rw [h.recordLine_eq wf, if_neg few', if_neg Bool.false_ne_true]
  obtain ⟨x, p, y, eq, near, res, -⟩ :=
    recordExtension_stretches c (by rwa [split]) (by rwa [split]) (h.above wf) (h.below wf)
  rw [split] at eq
  subst eq
  obtain ⟨apart, each, -⟩ := (spanListWf_iff _).1 wf
  obtain ⟨-, hy, hx⟩ := List.pairwise_append.1 apart
  have order := (each p (by simp)).1
  have notX : p ∉ x := fun hp => by have := hx p hp p (by simp); simp only [Apart] at this; omega
  have notY : p ∉ y := fun hp => by have := (List.pairwise_cons.1 hy).1 p hp; simp only [Apart] at this; omega
  refine ⟨p, by simp, by rw [res], fun q hq => ?_, fun q hq same => ?_, ?_⟩
  · simp only [List.mem_append, List.mem_cons] at hq
    rcases hq with hq | rfl | hq
    · exact (near.above q hq).1
    · exact le_rfl
    · exact (near.below q hq).1
  · simp only [List.mem_append, List.mem_cons] at hq
    rcases hq with hq | rfl | hq
    · exact .inr ((near.above q hq).2 same)
    · exact .inl rfl
    · exact .inr ((near.below q hq).2 same)
  · have other : ∀ z : List Span, p ∉ z → z.map (fun q => if q = p then stretchTo i c q else q) = z := fun z hz =>
      (List.map_congr_left fun q hq => if_neg fun (e : q = p) => hz (e ▸ hq)).trans (List.map_id z)
    rw [res]
    simp [other x notX, other y notY]

end

end Sys2Proof.Machine

namespace Sys2Proof.SpanMap

open Sys2Proof.Machine

/-- Settles O54: a recording is one of a few changes of the list, each of which keeps what R65 to R72 ask for; a line away from every
span is put by the room in the slot and in the pool. -/
theorem recordingKeepsEveryLine : Obligations.RecordingKeepsEveryLine := by
  intro l free i c first wf
  have step := recordLine_recording wf free i c first
  refine ⟨_, rfl, step.spanListWf wf, step.lost_iff, fun lost => ?_, step.holds wf, fun k => step.any_holdsLine wf, fun more => ?_,
    fun inside => ?_, step.sums wf, step.covers wf, step.exact wf, ?_⟩
  · obtain ⟨rfl, rfl⟩ := step.lost_iff.1 lost
    rfl
  · rcases step.length_le with h | h
    · omega
    · exact h
  · have same : spanLength ∘ recordInside i c first = spanLength := by
      funext p
      simp [spanLength, recordInside_first, recordInside_last]
    simp [recordLine, inside, same]
  · rintro away items rfl
    refine ⟨?_, fun full => recordLine_coarsens away wf full free, ?_⟩
    · rintro few rfl
      exact recordLine_alone away wf few
    · rintro some few rfl
      exact recordLine_extends away wf some few

end Sys2Proof.SpanMap
end

section
/-! PROOFS. What no operation of the part undoes (`Keeps`): the active geometry, the attention causes, the run counters, the ranges of
settings and report unit, and the form of the span lists. One lemma per operation, in the order of the definitions. -/

namespace Sys2Proof.Machine

/-! ### The run counters (R157) -/

/-- No counter has passed 2^32 - 1 (R157). -/
def CountersBounded (n : Counters) : Prop := ∀ x ∈ counterList n, x ≤ 4294967295

/-- No counter of m is above that of n. -/
def CountersLe (m n : Counters) : Prop := ∀ k, (counterList m).getD k 0 ≤ (counterList n).getD k 0

/-- The place of a counter in the order of R157. -/
def counterPlace : Counter → Nat
  | .framesFilled => 0
  | .framesDrained => 1
  | .framesOverwritten => 2
  | .framesStale => 3
  | .linesChecked => 4
  | .linesDamaged => 5
  | .linesAbsorbed => 6
  | .linesLost => 7
  | .chromaLines => 8
  | .linesRepaired => 9
  | .linesRedirected => 10
  | .linesPassedDamaged => 11
  | .holdsTaken => 12
  | .holdExpiries => 13
  | .trailersUnverified => 14
  | .lockLosses => 15

theorem counterList_bumpCounter (c : Counter) (k : Nat) (n : Counters) :
    counterList (bumpCounter c k n) = modifyAt (fun x => countTo x k) (counterPlace c) (counterList n) := by
  cases c <;> rfl

theorem countersBounded_bumpCounter {n : Counters} (c : Counter) (k : Nat) (h : CountersBounded n) :
    CountersBounded (bumpCounter c k n) := by
  intro x hx
  rw [counterList_bumpCounter] at hx
  rcases mem_modifyAt hx with hx | ⟨y, -, rfl⟩
  · exact h x hx
  · exact Nat.min_le_right _ _

theorem countersLe_bumpCounter {n : Counters} (c : Counter) (k : Nat) (h : CountersBounded n) :
    CountersLe n (bumpCounter c k n) := by
  intro j
  rw [counterList_bumpCounter, List.getD_eq_getElem?_getD, List.getD_eq_getElem?_getD]
  by_cases hj : j = counterPlace c
  · subst hj
    rw [modifyAt_getElem?_self]
    cases hx : (counterList n)[counterPlace c]? with
    | none => simp
    | some x =>
      have := h x (List.mem_of_getElem? hx)
      simp only [Option.map_some, Option.getD_some, countTo, Config.counterMax]
      omega
  · rw [modifyAt_getElem?_ne _ hj]

/-! ### The form of the map (R63) -/

/-- A list in the form of R63 put in a slot's place keeps the map's form, if the records suffice. -/
theorem mapWf_setSpans {d : Device} {s : Nat} {l : List Span} (h : MapWf d.map) (wf : SpanListWf l)
    (room : usedRecords d.map + l.length ≤ 1024 + (spansOf d s).length) : MapWf (setSpans s l d).map := by
  refine ⟨setSpans_forall h.1 wf, ?_⟩
  by_cases hs : s < d.map.spans.length
  · have := usedRecords_setSpans l d hs
    simp only [Config.poolSize]
    omega
  · have same : (setSpans s l d).map = d.map := by simp [setSpans, modifyAt_beyond _ (Nat.le_of_not_lt hs)]
    rw [same]
    exact h.2

/-- A slot's list is in the form of R63. -/
theorem MapWf.spansOf {d : Device} (h : MapWf d.map) (s : Nat) : SpanListWf (spansOf d s) := by
  rcases spansOf_mem_or_nil d s with hs | hs
  · exact h.1 _ hs
  · rw [hs]; exact spanListWf_nil

/-- Spans of a slot changed one by one, their lines kept. -/
theorem mapWf_mapSpans {d : Device} {s : Nat} {f : Span → Span} (h : MapWf d.map)
    (hf : ∀ p, (f p).first = p.first ∧ (f p).last = p.last ∧ (f p).absorbed ≤ p.absorbed) :
    MapWf (setSpans s ((spansOf d s).map f) d).map :=
  mapWf_setSpans h (spanListWf_map (h.spansOf s) hf) (by have := h.2; simp [Config.poolSize] at *; omega)

/-- One span of a slot changed, its lines kept. -/
theorem mapWf_modifySpan {d : Device} {s first : Nat} {f : Span → Span} (h : MapWf d.map)
    (hf : ∀ p, (f p).first = p.first ∧ (f p).last = p.last ∧ (f p).absorbed ≤ p.absorbed) :
    MapWf (modifySpan s first f d).map := by
  refine mapWf_mapSpans h fun p => ?_
  split
  · exact hf p
  · exact ⟨rfl, rfl, le_rfl⟩

/-- The map with every record free. -/
theorem mapWf_start (n : Nat) : MapWf (DamageMap.start n) := by
  refine ⟨fun l hl => ?_, by simp [usedRecords, DamageMap.start]⟩
  rw [(List.mem_replicate.1 hl).2]
  exact spanListWf_nil

/-- A recording keeps the map's form: a record is taken only if one is free (R68). -/
theorem mapWf_recordLine {d : Device} (h : MapWf d.map) (s i : Nat) (c : Causes) (first : Bool) :
    MapWf (setSpans s (recordLine (spansOf d s) (0 < freeRecords d.map) i c first).spans d).map := by
  have step := recordLine_recording (h.spansOf s) (0 < freeRecords d.map) i c first
  refine mapWf_setSpans h (step.spanListWf (h.spansOf s)) ?_
  have used := h.2
  simp only [Config.poolSize] at used
  rcases step.length_le with le | ⟨free, len⟩
  · omega
  · have := of_decide_eq_true free
    simp only [freeRecords, Config.poolSize] at this
    omega

/-! ### The ranges of the settings (R162, R163) -/

theorem BitVec.toNat_le_of_width {w : Nat} (x : BitVec w) : x.toNat ≤ 2 ^ w - 1 := by
  have := x.isLt; omega

/-- The clamped repair fields are in range (R163). -/
theorem repairInRange_clampRepair (s : Staged) : RepairInRange (clampRepair s) where
  tolerance := BitVec.toNat_le_of_width s.tolerance
  reach := by simp only [clampRepair]; omega
  tStill := Nat.min_le_right _ _
  tMove := Nat.min_le_right _ _
  wDefault := Nat.min_le_right _ _
  holdBudget := BitVec.toNat_le_of_width s.holdBudget
  holdAllowance := BitVec.toNat_le_of_width s.holdAllowance
  urgency := Nat.min_le_right _ _
  stationTag := Nat.min_le_right _ _
  weights := by simp only [clampRepair]; omega
  thresholds := by
    have h := fun x : BitVec 16 => BitVec.toNat_le_of_width x
    simp only [clampRepair, thresholdList, List.mem_cons, List.not_mem_nil, or_false]
    rintro t (rfl | rfl | rfl | rfl | rfl | rfl | rfl) <;> exact h _
  recovery := by
    have := BitVec.toNat_le_of_width s.recovery
    simp only [clampRepair]; omega
  alarm := Nat.min_le_right _ _

/-! ### What no operation undoes -/

/-- From part d to part e the active geometry is the same, no counter is smaller, and the ranges of settings and report unit and the
form of the span lists are kept. -/
structure KeepsFigures (d e : Device) : Prop where
  geometry : e.control.geometry = d.control.geometry
  counters : CountersBounded d.reports.counters →
    CountersBounded e.reports.counters ∧ CountersLe d.reports.counters e.reports.counters
  ranges : RangesWf d → RangesWf e
  map : MapWf d.map → MapWf e.map

/-- Besides, no attention cause is gone. -/
structure Keeps (d e : Device) : Prop extends KeepsFigures d e where
  causes : d.link.causes &&& e.link.causes = d.link.causes

theorem KeepsFigures.refl (d : Device) : KeepsFigures d d := ⟨rfl, fun h => ⟨h, fun _ => le_rfl⟩, id, id⟩

theorem Keeps.refl (d : Device) : Keeps d d := ⟨.refl d, BitVec.and_self⟩

theorem causes_trans {x y z : BitVec 10} (h1 : x &&& y = x) (h2 : y &&& z = y) : x &&& z = x := by
  rw [← h1, BitVec.and_assoc, h2]

theorem Keeps.trans {a d e : Device} (h1 : Keeps a d) (h2 : Keeps d e) : Keeps a e where
  geometry := h2.geometry.trans h1.geometry
  causes := causes_trans h1.causes h2.causes
  counters := fun h =>
    have ⟨h3, h4⟩ := h1.counters h
    have ⟨h5, h6⟩ := h2.counters h3
    ⟨h5, fun k => (h4 k).trans (h6 k)⟩
  ranges := h2.ranges ∘ h1.ranges
  map := h2.map ∘ h1.map

section
variable {a d e : Device}

/-- An operation that leaves settings, reports and causes alone and keeps the map's form. -/
theorem Keeps.of_map (h : Keeps a d) (map : MapWf d.map → MapWf e.map)
    (same : e.control = d.control ∧ e.reports = d.reports ∧ e.link.causes = d.link.causes) : Keeps a e where
  geometry := by rw [same.1]; exact h.geometry
  causes := by rw [same.2.2]; exact h.causes
  counters := by rw [same.2.1]; exact h.counters
  ranges := by unfold RangesWf; rw [same.1, same.2.1]; exact h.ranges
  map := map ∘ h.map

/-- An operation that leaves settings, reports, causes and map alone. -/
theorem Keeps.of_same (h : Keeps a d)
    (same : (e.control = d.control ∧ e.reports = d.reports ∧ e.link.causes = d.link.causes) ∧ e.map = d.map) : Keeps a e :=
  h.of_map (by rw [same.2]; exact id) same.1

theorem Keeps.ite {p : Prop} [Decidable p] (h1 : p → Keeps a d) (h2 : ¬ p → Keeps a e) : Keeps a (if p then d else e) := by
  split
  · next h => exact h1 h
  · next h => exact h2 h

/-! Flags and counts -/

theorem Keeps.raise (h : Keeps a d) (c : Cause) : Keeps a (raise c d) :=
  h.trans
    { Keeps.refl d with
      causes := by
        show d.link.causes &&& (d.link.causes ||| _) = d.link.causes
        ext k hk; simp; tauto }

theorem Keeps.bumpBy (h : Keeps a d) (c : Counter) (k : Nat) : Keeps a (bumpBy c k d) :=
  h.trans
    { Keeps.refl d with
      counters := fun hb => ⟨countersBounded_bumpCounter c k hb, countersLe_bumpCounter c k hb⟩
      ranges := fun ⟨hs, hq, hg, h1, h2, h3, h4, hb⟩ => ⟨hs, hq, hg, h1, h2, h3, h4, countersBounded_bumpCounter c k hb⟩ }

theorem Keeps.bump (h : Keeps a d) (c : Counter) : Keeps a (bump c d) := h.bumpBy c 1

theorem Keeps.fallLockHeld (h : Keeps a d) : Keeps a (fallLockHeld d) := h.of_same (by simp)

/-! The damage map and the report unit -/

theorem Keeps.loseLine (h : Keeps a d) (s : Nat) (first : Bool) : Keeps a (loseLine s first d) := by
  have lossy : Keeps a (modifySlot s (fun e => { e with flags := { e.flags with lossy := true } }) d) := h.of_same (by simp)
  exact Keeps.raise (.ite (fun _ => lossy.bump _) fun _ => lossy) _

theorem Keeps.handOver (h : Keeps a d) (s i : Nat) (c : Causes) (first : Bool) : Keeps a (handOver s i c first d) := by
  unfold Machine.handOver
  extract_lets d1 r d2
  have counted : Keeps a d1 := .ite (fun _ => h.bump _) fun _ => h
  have recorded : Keeps a d2 := (counted.of_map (fun m => mapWf_recordLine m s i c first) (by simp)).bumpBy _ _
  exact .ite (fun _ => recorded.loseLine s first) fun _ => recorded

theorem Keeps.countFrame (h : Keeps a d) (k : EndKind) : Keeps a (countFrame k d) := by
  cases k with
  | complete => exact h.bump _
  | overwritten => exact h.bump _
  | cutOff => exact h
  | stillOpen => exact h

/-- RQ and the recovery count stay in range: a count below the recovery frames setting is below 255 (R151). -/
theorem qualityAfter_range {frames rq count q : Nat} (hf : frames ≤ 255) (hq : q ≤ 7) (hrq : rq ≤ 7) :
    (qualityAfter frames rq count q).1 ≤ 7 ∧ (qualityAfter frames rq count q).2 ≤ 254 := by
  unfold qualityAfter
  split_ifs <;> simp <;> omega

theorem Keeps.foldQuality (h : Keeps a d) {q : Nat} (hq : q ≤ 7) : Keeps a (foldQuality q d) := by
  unfold Machine.foldQuality
  extract_lets before after _ d1
  have folded : Keeps d d1 :=
    { Keeps.refl d with
      ranges := by
        rintro ⟨hs, hl, hg, h1, h2, h3, h4, hb⟩
        have range := qualityAfter_range (count := d.reports.recovery) hs.2.1.recovery.2 hq h1
        exact ⟨hs, hl, hg, range.1, (Nat.min_le_left _ _).trans h2, hq, range.2, hb⟩ }
  exact .ite (fun _ => (h.trans folded).raise _) fun _ => h.trans folded

theorem Keeps.offerReport (h : Keeps a d) (r : FrameReport) : Keeps a (offerReport r d) := by
  unfold Machine.offerReport
  split
  · next room =>
    extract_lets _ d1
    have stored : Keeps d d1 :=
      { Keeps.refl d with
        ranges := by
          rintro ⟨hs, hl, hg, rest⟩
          refine ⟨hs, ?_, Nat.zero_le _, rest⟩
          simp only [Config.queueDepth] at room
          show (d.reports.queue ++ [_]).length ≤ 32
          simp; omega }
    exact .ite (fun _ => (h.trans stored).raise _) fun _ => h.trans stored
  · have dropped : Keeps d { d with reports := { d.reports with gap := min (d.reports.gap + 1) 255 } } :=
      { Keeps.refl d with ranges := fun ⟨hs, hl, _, rest⟩ => ⟨hs, hl, Nat.min_le_right _ _, rest⟩ }
    exact (h.trans dropped).raise _

theorem buildReport_quality_le (d : Device) (e : Ending) : (buildReport d e).quality ≤ 7 := by
  simp only [buildReport, qualityIndex]
  split <;> omega

theorem Keeps.report (h : Keeps a d) (e : Ending) : Keeps a (report e d) :=
  ((h.countFrame e.endKind).foldQuality (buildReport_quality_le d e)).offerReport _

/-! The delivery unit -/

theorem Keeps.countDecision (h : Keeps a d) (s i : Nat) (e : LineEntry) : Keeps a (countDecision s i e d) := by
  cases e with
  | redirected _ _ => exact h.bump _
  | damaged => exact h.bump _
  | asStored => exact .ite (fun _ => h) fun _ => h.bump _
  | _ => exact h

theorem Keeps.onRecord (h : Keeps a d) (f : DrainRecord → DrainRecord) : Keeps a (onRecord f d) := h.of_same (by simp)

theorem Keeps.settleLine (h : Keeps a d) (s i : Nat) (e : LineEntry) : Keeps a (settleLine s i e d) :=
  (h.onRecord _).countDecision s i e

theorem Keeps.takeHold (h : Keeps a d) (i : Nat) : Keeps a (takeHold i d) :=
  Keeps.bump ((h.onRecord fun r => { r with lines := modifyAt (fun _ => .held) i r.lines, holdCount := r.holdCount + 1 }).of_same (by simp)) _

theorem Keeps.decideLine (h : Keeps a d) (r : DrainRecord) (i : Nat) : Keeps a (decideLine r i d) := by
  unfold Machine.decideLine
  split
  · exact h.takeHold i
  · exact h.settleLine _ i _

theorem Keeps.askSample (h : Keeps a d) (i q : Nat) : Keeps a (askSample i q d).1 := by
  unfold Machine.askSample
  split
  · exact h
  · exact .ite (fun _ => h.decideLine _ i) fun _ => h

theorem Keeps.chargeHold (h : Keeps a d) (c : Nat) : Keeps a (chargeHold c d) := by
  unfold Machine.chargeHold
  split
  · exact h
  · exact .ite (fun _ => (h.onRecord _).raise _) fun _ => h.onRecord _

theorem Keeps.releaseHold (h : Keeps a d) : Keeps a (releasePort (dropHold d)) := h.of_same (by simp)

theorem Keeps.releaseByWriteBack (h : Keeps a d) (s i : Nat) : Keeps a (releaseByWriteBack s i d) := by
  unfold Machine.releaseByWriteBack
  split
  · exact .ite (fun _ => ((h.chargeHold _).settleLine s i .handled).releaseHold) fun _ => h
  · exact h

theorem Keeps.expireHold (h : Keeps a d) : Keeps a (expireHold d) := by
  unfold Machine.expireHold
  split
  · exact (((h.chargeHold _).bump _).settleLine _ _ _).releaseHold
  · exact h

theorem Keeps.tickHold (h : Keeps a d) : Keeps a (tickHold d) := by
  unfold Machine.tickHold
  split
  · exact .ite (fun _ => h.of_same (by simp)) fun _ => h.expireHold
  · exact h

theorem Keeps.handOverRecord (h : Keeps a d) (r : DrainRecord) : Keeps a (handOverRecord r d) := h.report _

theorem Keeps.handOverClosing (h : Keeps a d) : Keeps a (handOverClosing d) := by
  unfold Machine.handOverClosing
  split
  · exact h
  · exact (h.handOverRecord _).of_same ⟨⟨rfl, rfl, rfl⟩, rfl⟩

theorem Keeps.handOverDraining (h : Keeps a d) (k : EndKind) : Keeps a (handOverDraining k d) := by
  unfold Machine.handOverDraining
  split
  · exact h
  · exact (h.handOverRecord _).of_same ⟨⟨rfl, rfl, rfl⟩, rfl⟩

theorem Keeps.closeRecord (h : Keeps a d) : Keeps a (closeRecord d) := by
  unfold Machine.closeRecord
  split
  · exact h
  · next r _ =>
    have closing : Keeps a { Machine.handOverClosing d with delivery := { (Machine.handOverClosing d).delivery with
        record := none, closing := some { r with endKind := .complete } } } := h.handOverClosing.of_same ⟨⟨rfl, rfl, rfl⟩, rfl⟩
    exact .ite (fun _ => closing.handOverClosing) fun _ => closing

theorem Keeps.trackBeat (h : Keeps a d) (p : Passing) : Keeps a (trackBeat p d) := by
  have tracked : Keeps a { d with delivery := { d.delivery with context := p.context, countedHead := p.countedHead } } :=
    h.of_same ⟨⟨rfl, rfl, rfl⟩, rfl⟩
  exact .ite (fun _ => tracked.bump _) fun _ => tracked

theorem Keeps.deliverBeat (h : Keeps a d) (t : BeatTag) (b : Beat) : Keeps a (deliverBeat t b d).1 := by
  unfold Machine.deliverBeat
  split
  · next r _ =>
    have signed : Keeps a { d with delivery := { d.delivery with closing := some (signBeat (passBeat d r t b) r) } } :=
      h.of_same ⟨⟨rfl, rfl, rfl⟩, rfl⟩
    exact .ite (fun _ => (signed.trackBeat _).handOverClosing) fun _ => signed.trackBeat _
  · split
    · next r _ =>
      have signed : Keeps a { d with delivery := { d.delivery with record := some (signBeat (passBeat d r t b) r) } } :=
        h.of_same ⟨⟨rfl, rfl, rfl⟩, rfl⟩
      exact signed.trackBeat _
    · exact h

theorem Keeps.passThrough (h : Keeps a d) (t : Option BeatTag) (b : Beat) : Keeps a (passThrough t b d).1 := by
  cases t with
  | none => exact h
  | some t => exact h.deliverBeat t b

/-! The repair engine -/

theorem Keeps.modifySpan (h : Keeps a d) (s first : Nat) (f : Span → Span)
    (hf : ∀ p, (f p).first = p.first ∧ (f p).last = p.last ∧ (f p).absorbed ≤ p.absorbed) : Keeps a (modifySpan s first f d) :=
  h.of_map (fun m => mapWf_modifySpan m hf) (by simp)

theorem Keeps.finishSpan (h : Keeps a d) (j : Job) : Keeps a (finishSpan j d) :=
  (h.modifySpan j.slot j.first (fun p => { p with state := .done }) fun _ => ⟨rfl, rfl, le_rfl⟩).of_same ⟨⟨rfl, rfl, rfl⟩, rfl⟩

theorem Keeps.moveProgress (h : Keeps a d) (j : Job) : Keeps a (moveProgress j d) :=
  h.modifySpan _ _ (fun p => { p with progress := p.progress + 1 }) fun _ => ⟨rfl, rfl, le_rfl⟩

theorem Keeps.fixLine (h : Keeps a d) (j : Job) (i : Nat) (t : Option (List Nat)) : Keeps a (fixLine j i t d) := h.of_same (by simp)

theorem Keeps.startLine (h : Keeps a d) (j : Job) (i : Nat) : Keeps a (startLine j i d) := h.of_same (by simp)

theorem Keeps.lineWork (h : Keeps a d) (j : Job) (fuel : Nat) : Keeps a (lineWork j fuel d) := by
  induction fuel generalizing d with
  | zero => exact h.finishSpan j
  | succ fuel ih =>
    exact .ite (fun _ => h.finishSpan j) fun _ => .ite (fun _ => ih (h.moveProgress j)) fun _ => h.startLine j _

theorem Keeps.beginLines (h : Keeps a d) (j : Job) : Keeps a (beginLines j d) := h.lineWork j _

theorem Keeps.computeLine (h : Keeps a d) (j : Job) (i : Nat) (t : Option (List Nat)) : Keeps a (computeLine j i t d) :=
  .ite (fun _ => (h.moveProgress j).beginLines j) fun _ => h.fixLine j i t

theorem Keeps.setJob (h : Keeps a d) (j : Job) : Keeps a (setJob j d) := h.of_same (by simp)

theorem Keeps.claim (h : Keeps a d) (j : Job) : Keeps a (claimBus (Machine.setJob j d)) := h.of_same (by simp)

theorem Keeps.endGather (h : Keeps a d) (j : Job) : Keeps a (endGather j d) := (h.setJob _).beginLines _

theorem Keeps.continueGather (h : Keeps a d) (j : Job) : Keeps a (continueGather j d) := by
  unfold Machine.continueGather
  split
  · exact h.endGather j
  · exact .ite (fun _ => h.finishSpan j) fun _ =>
      .ite (fun _ => .ite (fun _ => h.endGather _) fun _ => h.claim _) fun _ => h.claim j

theorem Keeps.takeSpan (h : Keeps a d) (s : Nat) (p : Span) : Keeps a (takeSpan s p d) := by
  unfold Machine.takeSpan
  exact ((h.modifySpan s p.first (fun q => { q with state := .active }) fun _ => ⟨rfl, rfl, le_rfl⟩).setJob _).continueGather _

theorem Keeps.examineOrder (h : Keeps a d) (order : List SpanRef) : Keeps a (examineOrder order d) := by
  induction order generalizing d with
  | nil => exact h
  | cons x rest ih =>
    unfold Machine.examineOrder
    have popped : Keeps a { d with engine := { d.engine with order := rest } } := h.of_same ⟨⟨rfl, rfl, rfl⟩, rfl⟩
    extract_lets d1
    split
    · exact ih popped
    · next p _ =>
      refine .ite (fun _ => ih (popped.modifySpan _ _ (fun q => { q with state := .done }) fun _ => ⟨rfl, rfl, le_rfl⟩)) fun _ => ?_
      exact .ite (fun _ => ih (popped.takeSpan _ p)) fun _ => popped.takeSpan _ p

theorem Keeps.wakeEngine (h : Keeps a d) : Keeps a (wakeEngine d) := .ite (fun _ => h.examineOrder _) fun _ => h

theorem Keeps.testTransfer (h : Keeps a d) (j : Job) : Keeps a (testTransfer j d) := by
  unfold Machine.testTransfer
  split
  · exact h.continueGather j
  · exact .ite (fun _ => (h.moveProgress j).beginLines j) fun _ => .ite (fun _ => h.claim j) fun _ => h.fixLine j _ _
  · exact h.claim j
  · exact h.claim j
  · exact h

theorem Keeps.tallyLine (h : Keeps a d) (j : Job) : Keeps a (tallyLine j d) := by
  unfold Machine.tallyLine
  exact (h.modifySpan _ _ (fun p => { p with tallies := addTally j.grade p.tallies }) fun _ => ⟨rfl, rfl, le_rfl⟩).bump _

theorem Keeps.finishWriteBack (h : Keeps a d) (j : Job) : Keeps a (finishWriteBack j d) := by
  have moved := h.moveProgress j
  exact ((Keeps.ite (fun _ => moved) fun _ => moved.tallyLine j).releaseByWriteBack j.slot _).beginLines j

theorem Keeps.finishRun (h : Keeps a d) (j : Job) : Keeps a (finishRun j d) := by
  unfold Machine.finishRun
  split
  · exact (h.setJob _).continueGather _
  · exact h.computeLine j _ _
  · exact h.claim _
  · exact h.finishWriteBack j
  · exact h

theorem Keeps.engineCompletion (h : Keeps a d) (m : MemTransfer) (data : List Beat) : Keeps a (engineCompletion m data d) := by
  unfold Machine.engineCompletion
  split
  · exact h
  · exact (Keeps.ite (fun _ => (h.setJob _).testTransfer _) fun _ => (h.setJob _).finishRun _).wakeEngine

theorem Keeps.abortJob (h : Keeps a d) : Keeps a (abortJob d) := h.of_same (by simp)

theorem Keeps.abortJobOf (h : Keeps a d) (s : Nat) : Keeps a (abortJobOf s d) := h.of_same (by simp)

theorem Keeps.leaveOrder (h : Keeps a d) (s : Nat) : Keeps a (leaveOrder s d) := h.of_same (by simp)

/-! The line checker -/

theorem Keeps.setStatus (h : Keeps a d) (i : Nat) (x : LineStatus) : Keeps a (setStatus i x d) := h.of_same (by simp)

theorem Keeps.setContext (h : Keeps a d) (c : Option OpenLine) : Keeps a (setContext c d) := h.of_same (by simp)

theorem Keeps.endLine (h : Keeps a d) (s : Nat) (b : Beat) (c : OpenLine) : Keeps a (endLine s b c d) := by
  unfold Machine.endLine
  extract_lets causes d1 d2 d3
  have checked : Keeps a d1 := h.bump _
  have judged : Keeps a d3 := (Keeps.ite (fun _ => checked.bump _) fun _ => checked).setContext Option.none
  exact .ite (fun _ => (judged.setStatus _ _).handOver _ _ _ _) fun _ => judged.setStatus _ _

theorem Keeps.tearLine (h : Keeps a d) (s : Nat) (c : OpenLine) : Keeps a (tearLine s c d) :=
  ((h.setStatus _ _).setContext Option.none).handOver _ _ _ _

theorem Keeps.continueLine (h : Keeps a d) (s q : Nat) (b : Beat) (c : OpenLine) : Keeps a (continueLine s q b c d) :=
  .ite (fun _ => h.setContext _) fun _ => .ite (fun _ => h.setContext _) fun _ => h.endLine s b c

theorem Keeps.startBeat (h : Keeps a d) (s i q : Nat) (b : Beat) (full : Bool) : Keeps a (startBeat s i q b full d) := by
  unfold Machine.startBeat
  split
  · exact .ite (fun _ => (h.setStatus _ _).setContext _) fun _ => (h.setStatus _ _).handOver _ _ _ _
  · exact (h.setStatus _ _).handOver _ _ _ _
  · exact (h.setStatus _ _).handOver _ _ _ _
  all_goals exact h

theorem Keeps.checkBeat (h : Keeps a d) (s i q : Nat) (b : Beat) (e : Enables) : Keeps a (checkBeat s i q b e d) := by
  unfold Machine.checkBeat
  split
  · exact .ite (fun _ => .ite (fun _ => h.continueLine s q b _) fun _ => h.tearLine s _) fun _ =>
      (h.tearLine s _).startBeat s i q b _
  · exact h.startBeat s i q b _

theorem Keeps.missLine (h : Keeps a d) (s i : Nat) : Keeps a (missLine s i d) := (h.setStatus _ _).handOver _ _ _ _

theorem Keeps.missLines (h : Keeps a d) (s : Nat) (l : List Nat) : Keeps a (l.foldl (fun d i => Machine.missLine s i d) d) := by
  induction l generalizing d with
  | nil => exact h
  | cons i l ih => exact ih (h.missLine s i)

theorem Keeps.closeTable (h : Keeps a d) (s : Nat) : Keeps a (closeTable s d) := by
  unfold Machine.closeTable
  split
  · exact (h.tearLine s _).missLines s _
  · exact h.missLines s _

/-! The ring tracker -/

theorem Keeps.modifySlot (h : Keeps a d) (s : Nat) (f : SlotEntry → SlotEntry) : Keeps a (modifySlot s f d) := h.of_same (by simp)

theorem Keeps.queueSpans (h : Keeps a d) (s : Nat) : Keeps a (queueSpans s d) :=
  Keeps.of_same (h.of_map (fun m => mapWf_mapSpans (s := s) (f := fun p => { p with state := .queued }) m
    fun _ => ⟨rfl, rfl, le_rfl⟩) (by simp)) ⟨⟨rfl, rfl, rfl⟩, rfl⟩

theorem Keeps.closeFill (h : Keeps a d) (s : Nat) (lost : Bool) : Keeps a (closeFill s lost d) := by
  unfold Machine.closeFill
  extract_lets d1 d2 d3 d4
  have closed : Keeps a d1 := h.closeTable s
  have seek : Keeps a d2 := .ite (fun _ => closed.modifySlot s _) fun _ => closed
  have queued : Keeps a d4 := (seek.modifySlot s _).queueSpans s
  have shut : Keeps a { d4 with ring := { d4.ring with fillOpen := false } } := queued.of_same ⟨⟨rfl, rfl, rfl⟩, rfl⟩
  exact shut.bump _

theorem Keeps.closeOpenFill (h : Keeps a d) (lost : Bool) : Keeps a (closeOpenFill lost d) := by
  unfold Machine.closeOpenFill
  split
  · exact .ite (fun _ => h.closeFill _ lost) fun _ => h
  · exact h

theorem Keeps.freeSpans (h : Keeps a d) (s : Nat) : Keeps a (freeSpans s d) :=
  ((h.abortJobOf s).leaveOrder s).of_map
    (fun m => mapWf_setSpans m spanListWf_nil (by have := m.2; simp [Config.poolSize] at *; omega)) (by simp)

theorem Keeps.noDraining (h : Keeps a d) : Keeps a (noDraining d) := h.of_same (by simp)

theorem Keeps.disposeFrame (h : Keeps a d) (s : Nat) : Keeps a (disposeFrame s d) := by
  unfold Machine.disposeFrame
  extract_lets e
  split
  · exact h
  · exact h
  · exact (h.report _).raise _
  · exact (h.report _).raise _
  · exact ((h.handOverDraining _).raise _).noDraining

theorem Keeps.fillWith (h : Keeps a d) (s : Nat) (overwritten : Bool) : Keeps a (fillWith s overwritten d) := h.of_same (by simp)

theorem Keeps.startTable (h : Keeps a d) : Keeps a (startTable d) := h.of_same (by simp)

theorem Keeps.beginSlot (h : Keeps a d) (s : Nat) : Keeps a (beginSlot s d) :=
  (((h.disposeFrame s).freeSpans s).fillWith s _).startTable

theorem Keeps.loseLock (h : Keeps a d) : Keeps a (loseLock d) := ((h.bump _).raise _).fallLockHeld

theorem Keeps.setLock (h : Keeps a d) (l : Lock) : Keeps a (setLock l d) := h.of_same (by simp)

theorem Keeps.advanceTo (h : Keeps a d) (s : Nat) : Keeps a (advanceTo s d) := (h.closeOpenFill false).beginSlot s

theorem Keeps.jumpTo (h : Keeps a d) (s : Nat) : Keeps a (jumpTo s d) :=
  (Keeps.ite (fun _ => h.loseLock) fun _ => h.loseLock.closeOpenFill true).beginSlot s

theorem Keeps.relockAt (h : Keeps a d) (s : Nat) : Keeps a (relockAt s d) := (h.beginSlot s).setLock _

theorem Keeps.abandonSpans (h : Keeps a d) (t : Nat) : Keeps a (abandonSpans t d) :=
  h.of_map (fun m => mapWf_mapSpans m fun _ => ⟨rfl, rfl, le_rfl⟩) (by simp)

theorem Keeps.markStale (h : Keeps a d) (t : Nat) : Keeps a (markStale t d) :=
  .ite (fun _ => h) fun _ => (((((h.modifySlot t _).abortJobOf t).leaveOrder t).abandonSpans t).bump _).raise _

theorem Keeps.lockLoss (h : Keeps a d) (t : Nat) : Keeps a (lockLoss t d) :=
  (((h.closeOpenFill true).markStale t).setLock _).loseLock

theorem Keeps.fillBeat (h : Keeps a d) (s i q : Nat) (b : Beat) (e : Enables) : Keeps a (fillBeat s i q b e d) :=
  .ite (fun _ => (h.checkBeat s i q b e).closeFill s false) fun _ => h.checkBeat s i q b e

theorem Keeps.beginWrite (h : Keeps a d) (s : Nat) : Keeps a (beginWrite s d) :=
  .ite (fun _ => h.relockAt s) fun _ => .ite (fun _ => h.advanceTo s) fun _ => h.jumpTo s

theorem Keeps.runningBeat (h : Keeps a d) (first : Bool) (s i q : Nat) (b : Beat) (e : Enables) :
    Keeps a (runningBeat first s i q b e d) :=
  .ite (fun _ => (h.beginWrite s).checkBeat s i q b e) fun _ => .ite (fun _ => h.fillBeat s i q b e) fun _ =>
    .ite (fun _ => h.lockLoss s) fun _ => h.markStale s

/-- A run that starts in ARMED keeps the settings: ARMED leaves no all-zero geometry (R162, R166). -/
theorem Keeps.startRun (h : Keeps a d) (s : Nat) (armed : d.control.run = .armed) : Keeps a (startRun s d) := by
  have started : Keeps d { d with
      control := { d.control with run := .running }, ring := { d.ring with draining := Option.none, nextFrame := 0 } } :=
    { Keeps.refl d with
      ranges := fun ⟨⟨hg, hs⟩, hr⟩ => ⟨⟨.inr (hg.resolve_left fun off => by simp [armed] at off), hs⟩, hr⟩ }
  exact ((((h.trans started).freeSpans s).fillWith s false).startTable).setLock _

theorem Keeps.takeWriteBeat (h : Keeps a d) (first outside : Bool) (x : Nat) (b : Beat) (e : Enables) :
    Keeps a (takeWriteBeat first outside x b e d) := by
  unfold Machine.takeWriteBeat
  split
  · exact h
  · exact h
  · split
    · exact h
    · next armed => exact .ite (fun _ => ((h.startRun _ armed).checkBeat _ _ _ b e).wakeEngine) fun _ => h
    · exact (h.runningBeat first _ _ _ b e).wakeEngine

theorem Keeps.applyPending (h : Keeps a d) : Keeps a (applyPending d) := by
  have applied : Keeps d { d with control := { d.control with
      repair := clampRepair d.control.staged, settingsPending := false } } :=
    { Keeps.refl d with ranges := fun ⟨⟨hg, _, hn⟩, hr⟩ => ⟨⟨hg, repairInRange_clampRepair _, hn⟩, hr⟩ }
  exact .ite (fun _ => h.trans applied) fun _ => h

theorem Keeps.endDrain (h : Keeps a d) : Keeps a (endDrain d) := by
  unfold Machine.endDrain
  split
  · exact h
  · exact (h.modifySlot _ _).noDraining.closeRecord

theorem Keeps.makeDraining (h : Keeps a d) (s : Nat) : Keeps a (makeDraining s d) := h.of_same (by simp)

theorem Keeps.openRecord (h : Keeps a d) (s : Nat) : Keeps a (openRecord s d) := h.of_same (by simp)

theorem Keeps.startDrain (h : Keeps a d) (s : Nat) : Keeps a (startDrain s d) :=
  (h.endDrain.applyPending.makeDraining s).openRecord s

theorem Keeps.overtakeDrain (h : Keeps a d) (s : Nat) : Keeps a (overtakeDrain s d) :=
  (((h.endDrain.applyPending.makeDraining s).modifySlot s _).openRecord s).raise _

theorem Keeps.baseRead (h : Keeps a d) (s : Nat) : Keeps a (baseRead s d) := by
  unfold Machine.baseRead
  split
  · exact h.startDrain s
  · exact h.overtakeDrain s
  all_goals exact h

/-! The port and the arbiter -/

theorem Keeps.askBeat (h : Keeps a d) (x : Nat) : Keeps a (askBeat x d).device := by
  unfold Machine.askBeat
  extract_lets g
  split
  · exact h
  · exact h
  · next s i q _ =>
    have asked := Keeps.ite (p := (i == 0 && q == 0) = true) (fun _ => h.baseRead s) fun _ => h
    extract_lets d1 tag r
    split_ifs
    · exact asked.askSample i q
    · exact asked
    · exact asked

theorem Keeps.takeIn {k : Asked} (h : Keeps a k.device) : Keeps a (takeIn k) := by
  have counted := Keeps.ite (p := k.tag.isSome = true)
    (fun _ => h.onRecord fun r => { r with inFlight := r.inFlight + 1 }) fun _ => h
  exact .ite (fun _ => counted.endDrain) fun _ => counted

theorem Keeps.formPart (h : Keeps a d) (left x : Nat) (follows : Option Nat) : Keeps a (formPart left x follows d).device := by
  induction left generalizing x follows d with
  | zero => exact h
  | succ left ih =>
    unfold Machine.formPart
    extract_lets k
    have asked : Keeps a k.device := h.askBeat x
    split
    · exact asked
    · split_ifs
      · exact ih asked.takeIn _ _
      · exact asked

theorem Keeps.setTransfer (h : Keeps a d) (t : Option BurnerTransfer) : Keeps a (setTransfer t d) := h.of_same (by simp)

theorem Keeps.setBus (h : Keeps a d) (m : Option MemTransfer) : Keeps a (setBus m d) := h.of_same (by simp)

theorem Keeps.forwardWhole (h : Keeps a d) (t : BurnerTransfer) : Keeps a (forwardWhole t d) := h.of_same (by simp)

theorem Keeps.forwardPart (h : Keeps a d) (t : BurnerTransfer) : Keeps a (forwardPart t d) := by
  have formed := h.formPart (t.beats - t.next) (t.addr + 4 * t.next) none
  unfold Machine.forwardPart
  extract_lets f
  split
  · exact formed.setTransfer _
  · exact (formed.setTransfer _).setBus _

theorem Keeps.grantBurner (h : Keeps a d) : Keeps a (grantBurner d) := by
  have cleared : Keeps a { d with arbiter := { d.arbiter with passOver := false } } := h.of_same ⟨⟨rfl, rfl, rfl⟩, rfl⟩
  unfold Machine.grantBurner
  extract_lets d1
  split
  · exact cleared
  · exact .ite (fun _ => cleared.forwardWhole _) fun _ => cleared.forwardPart _

theorem Keeps.retestEngine (h : Keeps a d) : Keeps a (retestEngine d) := by
  unfold Machine.retestEngine
  split
  · exact h
  · exact (h.testTransfer _).wakeEngine

theorem Keeps.grantEngine (h : Keeps a d) : Keeps a (grantEngine d) :=
  .ite (fun _ => h.retestEngine.of_same (by simp)) fun _ => h.retestEngine

theorem Keeps.grantEngineIfFree (h : Keeps a d) : Keeps a (grantEngineIfFree d) := .ite (fun _ => h.grantEngine) fun _ => h

theorem Keeps.grantBurnerIfFree (h : Keeps a d) : Keeps a (grantBurnerIfFree d) := .ite (fun _ => h.grantBurner) fun _ => h

theorem Keeps.arbitrate (h : Keeps a d) : Keeps a (arbitrate d) := by
  have marked : Keeps a (markPassOver d) := h.of_same (by simp)
  exact .ite (fun _ => h) fun _ => .ite (fun _ => marked.grantEngineIfFree.grantBurnerIfFree) fun _ =>
    h.grantBurnerIfFree.grantEngineIfFree

theorem Keeps.acceptWrite (h : Keeps a d) (b : Beat) (e : Enables) : Keeps a (acceptWrite b e d) := by
  unfold Machine.acceptWrite
  split
  · exact h
  · exact (h.setTransfer _).takeWriteBeat _ _ _ b e

theorem Keeps.giveBeat (h : Keeps a d) (t : BurnerTransfer) (b : Beat) : Keeps a (giveBeat t b d) := h.of_same (by simp)

theorem Keeps.returnBeat (h : Keeps a d) (b : Beat) : Keeps a (returnBeat b d) := by
  unfold Machine.returnBeat
  split
  · exact h
  · exact (h.passThrough _ b).giveBeat _ _

theorem Keeps.completeTransfer (h : Keeps a d) (m : MemTransfer) (data : List Beat) : Keeps a (completeTransfer m data d) := by
  have freed := h.setBus Option.none
  exact (Keeps.ite (fun _ => .ite (fun _ => freed) fun _ => freed.engineCompletion m data) fun _ => freed.setTransfer _).arbitrate

end

end Sys2Proof.Machine
end

section
/-! PROOFS. What every command and the tick keep of the active geometry, the causes, the counters, the ranges and the span lists; and the
invariants that follow. -/

namespace Sys2Proof.Machine

/-! ### Requests -/

/-- What holds of the part as it is, of an input request's feeding and of the request's action holds of a clocked request. -/
theorem clockRequest_elim {P : Device → Prop} {d : Device} {act : Device → Device} (code arg : Byte) (payload : List Byte) (same : P d)
    (feeds : ∀ t r got, d.link.line = .active t → t.phase = .collecting r got → ∀ l, P (feedPayload r l d))
    (acts : ∀ t, d.link.line = .active t → P (act (reloadLockHeld t d))) : P (clockRequest code arg payload act d) := by
  unfold clockRequest
  split
  · exact same
  · exact same
  · next t line =>
    split
    · exact acts t line
    · next r got phase => exact feeds t r got line phase _
    · exact same
    · exact same

/-- Payload bytes of an input request are being clocked (R169). -/
def collecting (l : LinkLine) : Prop := ∃ t r got, l = .active t ∧ t.phase = .collecting r got

section
variable {a d : Device}

theorem Keeps.reloadLockHeld (h : Keeps a d) (t : Transaction) : Keeps a (reloadLockHeld t d) := h.of_same (by simp)

theorem Keeps.setLine (h : Keeps a d) (l : LinkLine) : Keeps a (setLine l d) := h.of_same (by simp)

theorem Keeps.putReply (h : Keeps a d) (p : TransactionPhase) (bytes : List Byte) : Keeps a (putReply p bytes d) := by
  unfold Machine.putReply
  split
  · exact h.setLine _
  · exact h
  · exact h

theorem Keeps.setRequestBad (h : Keeps a d) (b : Bool) : Keeps a (setRequestBad b d) := h.of_same (by simp)

theorem Keeps.goodRequest (h : Keeps a d) (bytes : List Byte) : Keeps a (goodRequest bytes d) := (h.putReply _ _).setRequestBad _

theorem Keeps.badRequest (h : Keeps a d) : Keeps a (badRequest d) := (h.putReply _ _).setRequestBad _

theorem Keeps.setHolder (h : Keeps a d) (x : Holder) : Keeps a (setHolder x d) := h.of_same (by simp)

theorem Keeps.storeSettings (h : Keeps a d) (p : List Byte) : Keeps a (storeSettings p d) :=
  h.trans { Keeps.refl d with }

theorem Keeps.storeEnables (h : Keeps a d) (p : List Byte) : Keeps a (storeEnables p d) := h.trans { Keeps.refl d with }

theorem Keeps.feedPayload (h : Keeps a d) {r : InputRequest} (hr : r ≠ .clearAttention) (got : List Byte) :
    Keeps a (feedPayload r got d) := by
  refine .ite (fun _ => h.putReply _ _) fun _ => Keeps.goodRequest ?_ _
  cases r with
  | writeSettings => exact h.storeSettings _
  | clearAttention => exact absurd rfl hr
  | setAttentionEnable => exact h.storeEnables _

theorem Keeps.readReport (h : Keeps a d) : Keeps a (readReport d) := by
  unfold Machine.readReport
  split
  · exact h.goodRequest _
  · exact (h.putReply _ _).setRequestBad _

theorem Keeps.readSettings (h : Keeps a d) (arg : Byte) : Keeps a (readSettings arg d) :=
  .ite (fun _ => h.goodRequest _) fun _ => .ite (fun _ => h.goodRequest _) fun _ => h.badRequest

theorem Keeps.readQuality (h : Keeps a d) : Keeps a (readQuality d) := by
  have best : Keeps d { d with reports := { d.reports with worstQuality := 7 } } :=
    { Keeps.refl d with ranges := fun ⟨hs, hl, hg, h1, _, rest⟩ => ⟨hs, hl, hg, h1, le_rfl, rest⟩ }
  exact (h.trans best).goodRequest _

theorem Keeps.queryMap (h : Keeps a d) (arg : Byte) : Keeps a (queryMap arg d) :=
  (Keeps.ite (fun _ => h.setHolder _) fun _ => h.setHolder _).goodRequest _

theorem Keeps.popReport (h : Keeps a d) : Keeps a (popReport d) := by
  have popped : Keeps d { d with reports := { d.reports with queue := d.reports.queue.tail } } :=
    { Keeps.refl d with ranges := fun ⟨hs, hl, rest⟩ => ⟨hs, by
        show d.reports.queue.tail.length ≤ 32
        rw [List.length_tail]; omega, rest⟩ }
  unfold Machine.popReport
  split
  · split
    · exact (h.trans popped).putReply _ _
    all_goals exact h
  · exact h
  · exact h

theorem Keeps.fillHolder (h : Keeps a d) : Keeps a (fillHolder d) := by
  unfold Machine.fillHolder
  split
  · exact h.setHolder _
  · exact h
  · exact h

/-! ### END RUN -/

theorem Keeps.dropHold (h : Keeps a d) : Keeps a (dropHold d) := h.of_same (by simp)

theorem Keeps.endHold (h : Keeps a d) : Keeps a (endHold d) := by
  unfold Machine.endHold
  split
  · exact ((h.chargeHold _).settleLine _ _ _).dropHold
  · exact h

theorem Keeps.freePort (h : Keeps a d) (ended : Bool) : Keeps a (freePort ended d) := h.of_same ⟨⟨rfl, rfl, rfl⟩, rfl⟩

theorem Keeps.endQuery (h : Keeps a d) : Keeps a (endQuery d) := by
  unfold Machine.endQuery
  split
  · exact h.setHolder _
  · exact h
  · exact h

theorem Keeps.clearRun (h : Keeps a d) : Keeps a (clearRun d) := h.of_map (fun _ => mapWf_start _) ⟨rfl, rfl, rfl⟩

theorem Keeps.endRunPart (h : Keeps a d) : Keeps a (endRunPart d) := by
  unfold Machine.endRunPart
  extract_lets ended d1 d2 d3 d4
  have cleared : Keeps a d4 := ((h.handOverClosing.endHold.abortJob).handOverDraining .cutOff).clearRun.endQuery
  have off : Keeps d4 { d4 with control := { d4.control with run := .off } } :=
    { Keeps.refl d4 with ranges := fun ⟨⟨hg, hs⟩, hr⟩ => ⟨⟨hg.imp_left fun ⟨h, _⟩ => ⟨h, rfl⟩, hs⟩, hr⟩ }
  exact ((cleared.trans off).freePort ended).arbitrate

theorem Keeps.endRunRequest (h : Keeps a d) : Keeps a (endRunRequest d) :=
  (Keeps.ite (fun _ => h) fun _ => h.endRunPart).goodRequest _

theorem Keeps.tick (h : Keeps a d) : Keeps a (tick d) := .ite (fun _ => h.tickHold.arbitrate) fun _ => h

end

/-! ### Every command -/

/-- What an input request's feeding keeps, CLEAR ATTENTION's among them. -/
theorem feedPayload_keepsFigures (r : InputRequest) (got : List Byte) (d : Device) : KeepsFigures d (feedPayload r got d) := by
  by_cases hr : r = .clearAttention
  · subst hr
    unfold feedPayload
    split
    · exact (Keeps.putReply (.refl d) _ _).toKeepsFigures
    · have cleared : KeepsFigures d (storeClear (got.take (payloadLength .clearAttention)) d) := { KeepsFigures.refl d with }
      have good := (Keeps.goodRequest (.refl (storeClear (got.take (payloadLength .clearAttention)) d)) []).toKeepsFigures
      exact ⟨good.geometry.trans cleared.geometry, fun h => good.counters h, good.ranges ∘ cleared.ranges, good.map ∘ cleared.map⟩
  · exact (Keeps.feedPayload (.refl d) hr got).toKeepsFigures

/-- A request whose action keeps everything: the figures are kept, and the causes unless it is payload of another. -/
theorem clockRequest_keeps {d : Device} {act : Device → Device} (code arg : Byte) (payload : List Byte)
    (hact : ∀ t, Keeps d (act (reloadLockHeld t d))) :
    KeepsFigures d (clockRequest code arg payload act d) ∧
      (¬ collecting d.link.line → Keeps d (clockRequest code arg payload act d)) :=
  clockRequest_elim (P := fun e => KeepsFigures d e ∧ (¬ collecting d.link.line → Keeps d e)) code arg payload
    ⟨.refl d, fun _ => .refl d⟩
    (fun t r got line phase l => ⟨feedPayload_keepsFigures r l d, fun h => absurd ⟨t, r, got, line, phase⟩ h⟩)
    (fun t _ => ⟨(hact t).toKeepsFigures, fun _ => hact t⟩)

/-- The commands that set counters or the active copy anew: READ COUNTERS, ARM and RESET. -/
def startsAnew : Instr → Bool
  | .readCounters _ => true
  | .arm _ => true
  | .reset => true
  | _ => false

/-- What every other command keeps: the figures always, and the causes unless it clears them or is payload of another request. -/
theorem effect_keeps {c : Instr} (hc : startsAnew c = false) (d : Device) (g : guard c d) : KeepsFigures d (effect c d) ∧
    ((isRequest c = true → ¬ collecting d.link.line) → (∀ arg p, c ≠ .clearAttention arg p) → Keeps d (effect c d)) := by
  have same := Keeps.refl d
  have plain : ∀ {e}, Keeps d e → KeepsFigures d e ∧
      ((isRequest c = true → ¬ collecting d.link.line) → (∀ arg p, c ≠ .clearAttention arg p) → Keeps d e) :=
    fun h => ⟨h.toKeepsFigures, fun _ _ => h⟩
  have request : ∀ {code arg payload} {act : Device → Device}, isRequest c = true → (∀ e, Keeps d e → Keeps d (act e)) →
      KeepsFigures d (clockRequest code arg payload act d) ∧ ((isRequest c = true → ¬ collecting d.link.line) →
        (∀ arg p, c ≠ .clearAttention arg p) → Keeps d (clockRequest code arg payload act d)) := fun hr hact =>
    have kept := clockRequest_keeps _ _ _ fun t => hact _ (same.reloadLockHeld t)
    ⟨kept.1, fun h _ => kept.2 (h hr)⟩
  cases c with
  | burnerTransferStart w x n => exact plain (Keeps.arbitrate (same.setTransfer _))
  | writeBeatAccepted b e => exact plain (same.acceptWrite b e)
  | readBeatData b => exact plain (same.returnBeat b)
  | memoryTransferComplete l =>
    obtain ⟨m, bus, -⟩ := g
    simp only [effect, bus]
    exact plain (same.completeTransfer m l)
  | holdExpiry => exact plain (.ite (fun _ => same.expireHold.arbitrate) fun _ => same)
  | reset => cases hc
  | transactionBegin => exact plain (same.setLine _)
  | transactionEnd => exact plain ((Keeps.ite (fun _ => same.setRequestBad _) fun _ => same).setLine _)
  | identify arg => exact request rfl fun _ h => h.goodRequest _
  | readSettings arg => exact request rfl fun _ h => h.readSettings _
  | writeSettings arg p => exact request rfl fun _ h => h.feedPayload (by decide) _
  | arm arg => cases hc
  | endRun arg => exact request rfl fun _ h => h.endRunRequest
  | readReport arg => exact request rfl fun _ h => h.readReport
  | reportPop => exact plain same.popReport
  | readCounters arg => cases hc
  | readQuality arg => exact request rfl fun _ h => h.readQuality
  | mapQuery arg => exact request rfl fun _ h => h.queryMap _
  | snapshotTaken => exact plain same.fillHolder
  | mapFetch arg => exact request rfl fun _ h => h.goodRequest _
  | readAttention arg => exact request rfl fun _ h => h.goodRequest _
  | clearAttention arg p =>
    refine ⟨clockRequest_elim _ _ _ (.refl d) (fun _ _ _ _ _ l => feedPayload_keepsFigures _ l d) fun t _ => ?_,
      fun _ h => absurd rfl (h arg p)⟩
    have fed := feedPayload_keepsFigures .clearAttention p (reloadLockHeld t d)
    have reloaded := (same.reloadLockHeld t).toKeepsFigures
    exact ⟨fed.geometry.trans reloaded.geometry, fun h => by simpa using fed.counters (by simpa using h),
      fed.ranges ∘ reloaded.ranges, fed.map ∘ reloaded.map⟩
  | setAttentionEnable arg p => exact request rfl fun _ h => h.feedPayload (by decide) _
  | unknownRequestCode code arg => exact request (by simpa [isRequest, guard] using g) fun _ h => h.badRequest

/-! ### The commands that set counters or the active copy anew -/

/-- An ARM keeps no cause from being set, and outside OFF it changes nothing of these (R165 to R167, R171). -/
theorem armRequest_keeps {d : Device} (run : d.control.run ≠ .off) : Keeps d (armRequest d) := by
  rw [armRequest_of_not_off run]
  exact (Keeps.refl d).badRequest

/-- The settings that an accepted ARM makes active are in range: the geometry has passed every check (R165, R166). -/
theorem geometryValid_of_refusal {g : Geometry} (h : geometryRefusal g = 0) : GeometryValid g := by
  unfold geometryRefusal at h
  split_ifs at h with h1 h2 h3 h4 h5 h6 h7 h8
  simp only [not_or, not_and, not_lt, Config.memorySize, ne_eq, not_not] at *
  exact ⟨by omega, by omega, by omega, ⟨by omega, by omega, fun hs => by have := h4.2.2 hs; omega⟩, by omega, by omega, by omega, by omega⟩

/-- The first failing check has a number up to 8 (R165). -/
theorem geometryRefusal_le (g : Geometry) : geometryRefusal g ≤ 8 := by
  unfold geometryRefusal
  split_ifs <;> simp

theorem reportsWf_start : ReportsWf Reports.start := by
  simp [ReportsWf, Reports.start, counterList, Counters.zero]

theorem rangesWf_armPart {d : Device} (valid : GeometryValid (stagedGeometry d.control.staged)) : RangesWf (armPart d) :=
  ⟨⟨.inr valid, repairInRange_clampRepair _, Nat.zero_le _⟩, reportsWf_start⟩

theorem Keeps.refuseArm {a d : Device} (h : Keeps a d) {n : Nat} (hn : n ≤ 8) : Keeps a (refuseArm n d) := by
  have noted : Keeps d { d with control := { d.control with refusal := n } } :=
    { Keeps.refl d with ranges := fun ⟨⟨hg, hr, _⟩, h⟩ => ⟨⟨hg, hr, hn⟩, h⟩ }
  exact (h.trans noted).raise _

/-- ARM keeps ranges and span lists in form, and no counter passes 2^32 - 1. -/
theorem armRequest_ranges (d : Device) : (RangesWf d → RangesWf (armRequest d)) ∧ (MapWf d.map → MapWf (armRequest d).map) ∧
    (CountersBounded d.reports.counters → CountersBounded (armRequest d).reports.counters) ∧
    d.link.causes &&& (armRequest d).link.causes = d.link.causes := by
  unfold armRequest
  split
  · extract_lets reason
    split
    · next passed =>
      have good := (Keeps.refl (armPart d)).goodRequest []
      refine ⟨fun _ => good.ranges (rangesWf_armPart (geometryValid_of_refusal passed)), fun _ => good.map (mapWf_start _),
        fun _ => ?_, ?_⟩
      · exact (good.counters (by simp [CountersBounded, armPart, Reports.start, counterList, Counters.zero])).1
      · exact good.causes
    · have good := ((Keeps.refl d).refuseArm (geometryRefusal_le (stagedGeometry d.control.staged))).goodRequest []
      exact ⟨good.ranges, good.map, fun h => (good.counters h).1, good.causes⟩
  · have bad := (Keeps.refl d).badRequest
    exact ⟨bad.ranges, bad.map, fun h => (bad.counters h).1, bad.causes⟩

/-- The part that reset leaves to the arbiter. -/
theorem resetPart_keeps (d : Device) : ∃ r : Device, r.control = Control.start ∧ r.map = DamageMap.start 0 ∧ r.reports = Reports.start ∧
    Keeps r (resetPart d) :=
  ⟨_, rfl, rfl, rfl, (Keeps.refl _).arbitrate⟩

theorem rangesWf_reset : RangesWf State.reset.toDevice := by
  refine ⟨⟨.inl ⟨rfl, rfl⟩, ?_, Nat.zero_le _⟩, reportsWf_start⟩
  have same : State.reset.control.repair = clampRepair State.reset.control.staged := by decide
  rw [same]
  exact repairInRange_clampRepair _

theorem resetPart_ranges (d : Device) : RangesWf (resetPart d) ∧ MapWf (resetPart d).map ∧
    CountersBounded (resetPart d).reports.counters := by
  obtain ⟨r, control, map, reports, keeps⟩ := resetPart_keeps d
  have ranges : RangesWf r := by
    unfold RangesWf
    rw [control, reports]
    exact rangesWf_reset
  exact ⟨keeps.ranges ranges, keeps.map (map ▸ mapWf_start 0), (keeps.counters ranges.2.2.2.2.2.2.2).1⟩

/-- READ COUNTERS keeps the ranges, the map and the causes; with its clear option the counters start at 0 again (R158, R175). -/
theorem readCounters_keeps (arg : Byte) (d : Device) :
    (arg.getLsbD 0 = false → Keeps d (readCounters arg d)) ∧ (RangesWf d → RangesWf (readCounters arg d)) ∧
      (MapWf d.map → MapWf (readCounters arg d).map) ∧
      (CountersBounded d.reports.counters → CountersBounded (readCounters arg d).reports.counters) ∧
      (readCounters arg d).control = d.control ∧ d.link.causes &&& (readCounters arg d).link.causes = d.link.causes := by
  unfold readCounters
  extract_lets bytes
  split
  · next clear =>
    have good := (Keeps.refl { d with reports := { d.reports with counters := Counters.zero } }).goodRequest bytes
    have zero : CountersBounded Counters.zero := by simp [CountersBounded, counterList, Counters.zero]
    refine ⟨fun h => absurd (h.symm.trans clear) (by decide), fun ⟨hs, hl, hg, h1, h2, h3, h4, _⟩ => good.ranges ⟨hs, hl, hg, h1, h2, h3, h4, zero⟩,
      good.map, fun _ => (good.counters zero).1, by simp, good.causes⟩
  · have good := (Keeps.refl d).goodRequest bytes
    exact ⟨fun _ => good, good.ranges, good.map, fun h => (good.counters h).1, by simp, good.causes⟩

/-! ### Every step -/

/-- Every command keeps the ranges, the form of the span lists, and every counter at or below 2^32 - 1. -/
theorem effect_ranges {c : Instr} {d : Device} (g : guard c d) : (RangesWf d → RangesWf (effect c d)) ∧
    (MapWf d.map → MapWf (effect c d).map) ∧ (CountersBounded d.reports.counters → CountersBounded (effect c d).reports.counters) := by
  have feeds : ∀ r l, (RangesWf d → RangesWf (feedPayload r l d)) ∧ (MapWf d.map → MapWf (feedPayload r l d).map) ∧
      (CountersBounded d.reports.counters → CountersBounded (feedPayload r l d).reports.counters) := fun r l =>
    have fed := feedPayload_keepsFigures r l d
    ⟨fed.ranges, fed.map, fun h => (fed.counters h).1⟩
  have reload := fun t => (Keeps.refl d).reloadLockHeld t
  by_cases hc : startsAnew c = false
  · have kept := (effect_keeps hc d g).1
    exact ⟨kept.ranges, kept.map, fun h => (kept.counters h).1⟩
  · cases c with
    | readCounters arg =>
      refine clockRequest_elim (P := fun e => (RangesWf d → RangesWf e) ∧ (MapWf d.map → MapWf e.map) ∧
        (CountersBounded d.reports.counters → CountersBounded e.reports.counters)) _ _ _ ⟨id, id, id⟩
        (fun _ r _ _ _ l => feeds r l) fun t _ => ?_
      obtain ⟨-, ranges, map, bounded, -⟩ := readCounters_keeps arg (reloadLockHeld t d)
      exact ⟨ranges ∘ (reload t).ranges, map ∘ (reload t).map, fun h => bounded ((reload t).counters h).1⟩
    | arm arg =>
      refine clockRequest_elim (P := fun e => (RangesWf d → RangesWf e) ∧ (MapWf d.map → MapWf e.map) ∧
        (CountersBounded d.reports.counters → CountersBounded e.reports.counters)) _ _ _ ⟨id, id, id⟩
        (fun _ r _ _ _ l => feeds r l) fun t _ => ?_
      obtain ⟨ranges, map, bounded, -⟩ := armRequest_ranges (reloadLockHeld t d)
      exact ⟨ranges ∘ (reload t).ranges, map ∘ (reload t).map, fun h => bounded ((reload t).counters h).1⟩
    | reset =>
      obtain ⟨ranges, map, bounded⟩ := resetPart_ranges d
      exact ⟨fun _ => ranges, fun _ => map, fun _ => bounded⟩
    | _ => exact absurd rfl hc

/-- What the machine does next is a tick or the effect of a command. -/
theorem moves_next {c : Option Instr} {s t : State} (h : moves c s t) :
    c = none ∧ t.toDevice = tick s.toDevice ∨ ∃ k, c = some k ∧ guard k s.toDevice ∧ t.toDevice = effect k s.toDevice := by
  cases c with
  | none =>
    obtain ⟨empty, h⟩ := h
    rcases step_next h with ⟨-, rfl⟩ | ⟨c, rest, waiting, -⟩
    · exact .inl ⟨rfl, rfl⟩
    · simp [empty] at waiting
  | some k =>
    obtain ⟨g, rfl⟩ := exec_next h
    exact .inr ⟨k, rfl, g, rfl⟩

/-! ### The attention enables (R177) -/

@[simp] theorem putReply_enables (p : TransactionPhase) (bytes : List Byte) (d : Device) :
    (putReply p bytes d).link.enables = d.link.enables := by
  unfold putReply
  split <;> rfl

@[simp] theorem goodRequest_enables (bytes : List Byte) (d : Device) : (goodRequest bytes d).link.enables = d.link.enables := by
  simp [goodRequest]

@[simp] theorem badRequest_enables (d : Device) : (badRequest d).link.enables = d.link.enables := by simp [badRequest]

theorem feedPayload_enables {r : InputRequest} (hr : r ≠ .setAttentionEnable) (got : List Byte) (d : Device) :
    (feedPayload r got d).link.enables = d.link.enables := by
  unfold feedPayload
  split
  · simp
  · cases r with
    | writeSettings => simp [storePayload, storeSettings]
    | clearAttention => simp [storePayload, storeClear]
    | setAttentionEnable => exact absurd rfl hr

@[simp] theorem refuseArm_enables (n : Nat) (d : Device) : (refuseArm n d).link.enables = d.link.enables := by simp [refuseArm]

@[simp] theorem endHold_enables (d : Device) : (endHold d).link.enables = d.link.enables := by
  unfold endHold
  split <;> simp

@[simp] theorem endQuery_enables (d : Device) : (endQuery d).link.enables = d.link.enables := by
  unfold endQuery
  split <;> simp

@[simp] theorem endRunPart_enables (d : Device) : (endRunPart d).link.enables = d.link.enables := by
  simp [endRunPart, freePort, clearRun]

@[simp] theorem readReport_enables (d : Device) : (readReport d).link.enables = d.link.enables := by
  unfold readReport
  split <;> simp

@[simp] theorem popReport_enables (d : Device) : (popReport d).link.enables = d.link.enables := by
  unfold popReport
  split
  · split <;> simp
  · rfl
  · rfl

@[simp] theorem fillHolder_enables (d : Device) : (fillHolder d).link.enables = d.link.enables := by
  unfold fillHolder
  split <;> simp

/-- A request whose action leaves the enables alone does so, unless it is payload of another. -/
theorem clockRequest_enables {d : Device} {act : Device → Device} (code arg : Byte) (payload : List Byte)
    (out : ¬ collecting d.link.line) (hact : ∀ e, (act e).link.enables = e.link.enables) :
    (clockRequest code arg payload act d).link.enables = d.link.enables :=
  clockRequest_elim (P := fun e => e.link.enables = d.link.enables) code arg payload rfl
    (fun t r got line phase _ => absurd ⟨t, r, got, line, phase⟩ out) fun t _ => by simp [hact]

/-- Every command leaves the enables alone but SET ATTENTION ENABLE, RESET and a request that is payload of another. -/
theorem effect_enables {c : Instr} {d : Device} (hc : ∀ arg p, c ≠ .setAttentionEnable arg p) (hr : c ≠ .reset)
    (out : isRequest c = true → ¬ collecting d.link.line) (g : guard c d) : (effect c d).link.enables = d.link.enables := by
  have request : ∀ {code arg payload} {act : Device → Device}, isRequest c = true →
      (∀ e, (act e).link.enables = e.link.enables) → (clockRequest code arg payload act d).link.enables = d.link.enables :=
    fun h hact => clockRequest_enables _ _ _ (out h) hact
  cases c with
  | burnerTransferStart w x n => exact startTransfer_enables ..
  | writeBeatAccepted b e => exact acceptWrite_enables ..
  | readBeatData b => exact returnBeat_enables ..
  | memoryTransferComplete l =>
    obtain ⟨m, bus, -⟩ := g
    simp [effect, bus]
  | holdExpiry =>
    simp only [effect, expireAndGrant]
    split <;> simp
  | reset => exact absurd rfl hr
  | transactionBegin => rfl
  | transactionEnd =>
    simp only [effect, endTransaction, setLine_enables]
    split <;> simp
  | identify arg => exact request rfl fun e => by simp
  | readSettings arg => exact request rfl fun e => by simp only [readSettings]; split_ifs <;> simp
  | writeSettings arg p => exact request rfl fun e => feedPayload_enables (by decide) _ e
  | arm arg => exact request rfl fun e => by simp only [armRequest]; split_ifs <;> simp
  | endRun arg => exact request rfl fun e => by simp only [endRunRequest]; split_ifs <;> simp
  | readReport arg => exact request rfl readReport_enables
  | reportPop => exact popReport_enables d
  | readCounters arg => exact request rfl fun e => by simp only [readCounters]; split_ifs <;> simp
  | readQuality arg => exact request rfl fun e => by simp [readQuality]
  | mapQuery arg => exact request rfl fun e => by simp only [queryMap]; split_ifs <;> simp
  | snapshotTaken => exact fillHolder_enables d
  | mapFetch arg => exact request rfl fun e => by simp [fetchMap]
  | readAttention arg => exact request rfl fun e => by simp [readAttention]
  | clearAttention arg p => exact request rfl fun e => feedPayload_enables (by decide) _ e
  | setAttentionEnable arg p => exact absurd rfl (hc arg p)
  | unknownRequestCode code arg => exact request (by simpa [isRequest, guard] using g) fun e => by simp

@[simp] theorem tick_enables (d : Device) : (tick d).link.enables = d.link.enables := by
  unfold tick
  split <;> simp

/-! ### The active geometry and the causes -/

/-- Every command but RESET keeps the active geometry, ARM outside OFF among them (R162, R164, R171). -/
theorem effect_geometry {c : Instr} {d : Device} (hr : c ≠ .reset) (harm : ∀ arg, c = .arm arg → d.control.run ≠ .off)
    (g : guard c d) : (effect c d).control.geometry = d.control.geometry := by
  by_cases hc : startsAnew c = false
  · exact (effect_keeps hc d g).1.geometry
  · cases c with
    | readCounters arg =>
      exact clockRequest_elim (P := fun e => e.control.geometry = d.control.geometry) _ _ _ rfl
        (fun _ r _ _ _ l => (feedPayload_keepsFigures r l d).geometry) fun t _ => by
          obtain ⟨-, -, -, -, control, -⟩ := readCounters_keeps arg (reloadLockHeld t d)
          simp [control]
    | arm arg =>
      exact (clockRequest_keeps 0x04 arg [] fun t => ((Keeps.refl d).reloadLockHeld t).trans
        (armRequest_keeps (by simpa using harm arg rfl))).1.geometry
    | reset => exact absurd rfl hr
    | _ => exact absurd rfl hc

/-- Every command but CLEAR ATTENTION, RESET and a request that is payload of another keeps the causes that are set (R177). -/
theorem effect_causes {c : Instr} {d : Device} (hr : c ≠ .reset) (hc : ∀ arg p, c ≠ .clearAttention arg p)
    (out : isRequest c = true → ¬ collecting d.link.line) (g : guard c d) :
    d.link.causes &&& (effect c d).link.causes = d.link.causes := by
  by_cases anew : startsAnew c = false
  · exact ((effect_keeps anew d g).2 out hc).causes
  · have request : ∀ {code arg payload} {act : Device → Device}, isRequest c = true →
        (∀ e, e.link.causes &&& (act e).link.causes = e.link.causes) →
        d.link.causes &&& (clockRequest code arg payload act d).link.causes = d.link.causes := fun h hact =>
      clockRequest_elim (P := fun e => d.link.causes &&& e.link.causes = d.link.causes) _ _ _ BitVec.and_self
        (fun t r got line phase _ => absurd ⟨t, r, got, line, phase⟩ (out h)) fun t _ => by simpa using hact (reloadLockHeld t d)
    cases c with
    | readCounters arg => exact request rfl fun e => (readCounters_keeps arg e).2.2.2.2.2
    | arm arg => exact request rfl fun e => (armRequest_ranges e).2.2.2
    | reset => exact absurd rfl hr
    | _ => exact absurd rfl anew

end Sys2Proof.Machine

namespace Sys2Proof.Kept

open Sys2Proof.Machine

/-- Settles O5: no operation leaves the form of R63, whatever state it starts from. -/
theorem spanListsStayInOrder : Obligations.SpanListsStayInOrder :=
  kept_of_effects (inv := fun d => MapWf d.map) (fun d => ((Keeps.refl d).tick).map) fun _ _ h g => (effect_ranges g).2.1 h

/-- Settles O6: every operation keeps the ranges; ARM's geometry has passed the checks and its repair fields are clamped. -/
theorem rangesAreKept : Obligations.RangesAreKept :=
  kept_of_effects (fun d => ((Keeps.refl d).tick).ranges) fun _ _ h g => (effect_ranges g).1 h

/-- Settles O11: every operation but the three that start the counters anew raises them, stopping at 2^32 - 1. -/
theorem countersNeverFall : Obligations.CountersNeverFall := by
  intro c s t h bounded
  rcases moves_next h with ⟨rfl, eq⟩ | ⟨k, rfl, g, eq⟩
  · rw [eq]
    have kept := (Keeps.refl s.toDevice).tick.counters bounded
    exact ⟨kept.1, fun _ _ _ => kept.2⟩
  · rw [eq]
    refine ⟨(effect_ranges g).2.2 bounded, fun plain noArm noReset => ?_⟩
    by_cases hk : startsAnew k = false
    · exact ((effect_keeps hk s.toDevice g).1.counters bounded).2
    · cases k with
      | readCounters arg =>
        have kept := (clockRequest_keeps 0x07 arg [] fun t => ((Keeps.refl s.toDevice).reloadLockHeld t).trans
          ((readCounters_keeps arg _).1 (plain arg rfl))).1
        exact (kept.counters bounded).2
      | arm arg => exact absurd rfl (noArm arg)
      | reset => exact absurd rfl noReset
      | _ => exact absurd rfl hk

/-- Settles O12: command by command, the geometry, the causes and the enables have each a few commands that change them. -/
theorem geometryAndCausesStay : Obligations.GeometryAndCausesStay := by
  intro c s t h noReset
  rcases moves_next h with ⟨rfl, eq⟩ | ⟨k, rfl, g, eq⟩
  · have kept := (Keeps.refl s.toDevice).tick
    rw [eq]
    exact ⟨fun _ => kept.geometry, fun _ => ⟨fun _ => kept.causes, fun _ => tick_enables _⟩⟩
  · rw [eq]
    have hr : k ≠ .reset := fun e => noReset (e ▸ rfl)
    refine ⟨fun arm => effect_geometry hr (fun arg e => arm arg (e ▸ rfl)) g, fun out => ⟨fun clear => ?_, fun enable => ?_⟩⟩
    · exact effect_causes hr (fun arg p e => clear arg p (e ▸ rfl)) (out k rfl) g
    · exact effect_enables (fun arg p e => enable arg p (e ▸ rfl)) hr (out k rfl) g

end Sys2Proof.Kept
end

section
/-! PROOFS. The requests of the link leave the blocks of the bus alone (`SamePart`): an invariant of those blocks is kept by every step if
the bus commands, ARM, END RUN, RESET and the tick keep it. -/

namespace Sys2Proof.Machine

/-- Parts d and e differ at most in the station's copies, LOCK_HELD, the report unit and the link. -/
structure SamePart (d e : Device) : Prop where
  run : e.control.run = d.control.run
  geometry : e.control.geometry = d.control.geometry
  port : e.port = d.port
  arbiter : e.arbiter = d.arbiter
  ring : e.ring = { d.ring with lockHeld := e.ring.lockHeld }
  checker : e.checker = d.checker
  map : e.map = d.map
  engine : e.engine = d.engine
  delivery : e.delivery = d.delivery

theorem SamePart.refl (d : Device) : SamePart d d := ⟨rfl, rfl, rfl, rfl, rfl, rfl, rfl, rfl, rfl⟩

theorem SamePart.trans {a d e : Device} (h1 : SamePart a d) (h2 : SamePart d e) : SamePart a e :=
  ⟨h2.run.trans h1.run, h2.geometry.trans h1.geometry, h2.port.trans h1.port, h2.arbiter.trans h1.arbiter,
    by rw [h2.ring, h1.ring], h2.checker.trans h1.checker, h2.map.trans h1.map, h2.engine.trans h1.engine,
    h2.delivery.trans h1.delivery⟩

section
variable {a d : Device}

theorem SamePart.setLine (h : SamePart a d) (l : LinkLine) : SamePart a (setLine l d) := h.trans { SamePart.refl d with }

theorem SamePart.setRequestBad (h : SamePart a d) (b : Bool) : SamePart a (setRequestBad b d) := h.trans { SamePart.refl d with }

theorem SamePart.setHolder (h : SamePart a d) (x : Holder) : SamePart a (setHolder x d) := h.trans { SamePart.refl d with }

theorem SamePart.putReply (h : SamePart a d) (p : TransactionPhase) (bytes : List Byte) : SamePart a (putReply p bytes d) := by
  unfold Machine.putReply
  split
  · exact h.setLine _
  · exact h
  · exact h

theorem SamePart.goodRequest (h : SamePart a d) (bytes : List Byte) : SamePart a (goodRequest bytes d) :=
  (h.putReply _ _).setRequestBad _

theorem SamePart.badRequest (h : SamePart a d) : SamePart a (badRequest d) := (h.putReply _ _).setRequestBad _

theorem SamePart.reloadLockHeld (h : SamePart a d) (t : Transaction) : SamePart a (reloadLockHeld t d) := by
  unfold Machine.reloadLockHeld
  split
  · exact h
  · exact h.trans { SamePart.refl d with ring := rfl }

theorem SamePart.ite {p : Prop} [Decidable p] {e : Device} (h1 : SamePart a d) (h2 : SamePart a e) :
    SamePart a (if p then d else e) := by
  split
  · exact h1
  · exact h2

theorem SamePart.storePayload (h : SamePart a d) (r : InputRequest) (p : List Byte) : SamePart a (storePayload r p d) := by
  cases r <;> exact h.trans { SamePart.refl d with }

theorem SamePart.feedPayload (h : SamePart a d) (r : InputRequest) (got : List Byte) : SamePart a (feedPayload r got d) :=
  .ite (h.putReply _ _) ((h.storePayload r _).goodRequest _)

theorem SamePart.putReports (h : SamePart a d) (r : Reports) : SamePart a { d with reports := r } :=
  h.trans { SamePart.refl d with }

theorem SamePart.readReport (h : SamePart a d) : SamePart a (readReport d) := by
  unfold Machine.readReport
  split
  · exact h.goodRequest _
  · exact (h.putReply _ _).setRequestBad _

theorem SamePart.popReport (h : SamePart a d) : SamePart a (popReport d) := by
  unfold Machine.popReport
  split
  · split
    · exact (h.putReports _).putReply _ _
    all_goals exact h
  · exact h
  · exact h

theorem SamePart.readCounters (h : SamePart a d) (arg : Byte) : SamePart a (readCounters arg d) :=
  SamePart.goodRequest (.ite (h.putReports _) h) _

theorem SamePart.readQuality (h : SamePart a d) : SamePart a (readQuality d) :=
  (h.putReports _).goodRequest _

theorem SamePart.queryMap (h : SamePart a d) (arg : Byte) : SamePart a (queryMap arg d) :=
  SamePart.goodRequest (.ite (h.setHolder _) (h.setHolder _)) _

theorem SamePart.fillHolder (h : SamePart a d) : SamePart a (fillHolder d) := by
  unfold Machine.fillHolder
  split
  · exact h.setHolder _
  · exact h
  · exact h

theorem SamePart.refuseArm (h : SamePart a d) (n : Nat) : SamePart a (refuseArm n d) := h.trans { SamePart.refl d with }

end

/-- A clocked request keeps what its action keeps. -/
theorem clockRequest_kept {inv : Device → Prop} (same : ∀ d e, SamePart d e → inv d → inv e) {d : Device} (h : inv d)
    (code arg : Byte) (payload : List Byte) {act : Device → Device} (hact : ∀ e, SamePart d e → inv e → inv (act e)) :
    inv (clockRequest code arg payload act d) :=
  clockRequest_elim code arg payload h (fun _ r _ _ _ l => same d _ ((SamePart.refl d).feedPayload r l) h) fun t _ =>
    have reloaded := (SamePart.refl d).reloadLockHeld t
    hact _ reloaded (same d _ reloaded h)

/-- What an invariant of the blocks of the bus needs to be kept by every step. -/
structure KeptByBlocks (inv : Device → Prop) : Prop where
  same : ∀ d e, SamePart d e → inv d → inv e
  tick : ∀ d, inv d → d.delivery.held ≠ none → inv (arbitrate (tickHold d))
  start : ∀ w x n d, inv d → d.port.transfer = none → inv (startTransfer w x n d)
  accept : ∀ b e d, inv d → writeBeatDue d = true → inv (acceptWrite b e d)
  back : ∀ b d, inv d → readBeatDue d = true → inv (returnBeat b d)
  complete : ∀ m l d, inv d → d.arbiter.onBus = some m → beatsOutstanding m d = false → inv (completeTransfer m l d)
  expire : ∀ d, inv d → d.delivery.held ≠ none → inv (expireAndGrant d)
  reset : ∀ d, inv d → inv (resetPart d)
  arm : ∀ d, inv d → d.control.run = .off → inv (armPart d)
  endRun : ∀ d, inv d → d.control.run ≠ .off → inv (endRunPart d)

theorem KeptByBlocks.keptByStep {inv : Device → Prop} (k : KeptByBlocks inv) : KeptByStep inv := by
  have same : ∀ {d e : Device}, inv d → SamePart d e → inv e := fun h s => k.same _ _ s h
  refine kept_of_effects (fun d h => ?_) fun c d h g => ?_
  · unfold Machine.tick
    split
    · next held => exact k.tick d h (by simpa [Option.isSome_iff_ne_none] using held)
    · exact h
  · have request : ∀ {code arg payload} {act : Device → Device}, (∀ e, SamePart e (act e)) →
        inv (clockRequest code arg payload act d) :=
      fun hact => clockRequest_kept k.same h _ _ _ fun e _ he => same he (hact e)
    cases c with
    | burnerTransferStart w x n => exact k.start w x n d h g.2
    | writeBeatAccepted b e => exact k.accept b e d h g
    | readBeatData b => exact k.back b d h g
    | memoryTransferComplete l =>
      obtain ⟨m, bus, out, -⟩ := g
      simp only [effect, bus]
      exact k.complete m l d h bus out
    | holdExpiry =>
      simp only [effect]
      split
      · next held => exact k.expire d h (by simpa [Option.isSome_iff_ne_none] using held)
      · exact h
    | reset => exact k.reset d h
    | transactionBegin => exact same h ((SamePart.refl d).setLine _)
    | transactionEnd => exact same h (SamePart.setLine (.ite ((SamePart.refl d).setRequestBad _) (.refl d)) _)
    | identify arg => exact request fun e => (SamePart.refl e).goodRequest _
    | readSettings arg =>
      exact request fun e => .ite ((SamePart.refl e).goodRequest _) (.ite ((SamePart.refl e).goodRequest _) (SamePart.refl e).badRequest)
    | writeSettings arg p => exact request fun e => (SamePart.refl e).feedPayload _ _
    | arm arg =>
      refine clockRequest_kept k.same h _ _ _ fun e _ he => ?_
      unfold armRequest
      split
      · next off =>
        refine same ?_ ((SamePart.refl _).goodRequest _)
        extract_lets
        split
        · exact k.arm e he off
        · exact same he ((SamePart.refl e).refuseArm _)
      · exact same he (SamePart.refl e).badRequest
    | endRun arg =>
      refine clockRequest_kept k.same h _ _ _ fun e _ he => same ?_ ((SamePart.refl _).goodRequest _)
      split
      · exact he
      · next off => exact k.endRun e he off
    | readReport arg => exact request fun e => (SamePart.refl e).readReport
    | reportPop => exact same h (SamePart.refl d).popReport
    | readCounters arg => exact request fun e => (SamePart.refl e).readCounters arg
    | readQuality arg => exact request fun e => (SamePart.refl e).readQuality
    | mapQuery arg => exact request fun e => (SamePart.refl e).queryMap arg
    | snapshotTaken => exact same h (SamePart.refl d).fillHolder
    | mapFetch arg => exact request fun e => (SamePart.refl e).goodRequest _
    | readAttention arg => exact request fun e => (SamePart.refl e).goodRequest _
    | clearAttention arg p => exact request fun e => (SamePart.refl e).feedPayload _ _
    | setAttentionEnable arg p => exact request fun e => (SamePart.refl e).feedPayload _ _
    | unknownRequestCode code arg => exact request fun e => (SamePart.refl e).badRequest

end Sys2Proof.Machine
end

section
/-! PROOFS. The bookkeeping of the memory side (R1, R13, R119): the engine's operations leave it with a job behind every claim, and the
arbiter's grant leaves no claim waiting on a free memory side. -/

namespace Sys2Proof.Machine

/-! ### The bookkeeping in terms of the port state -/

theorem portState_eq_forwarding {d : Device} :
    portState d = .forwarding ↔ ∃ t, d.port.transfer = some t ∧ t.mode = .forwarding := by
  unfold portState
  cases d.port.transfer with
  | none => simp
  | some t => cases h : t.mode <;> simp [h]

theorem portState_eq_waiting {d : Device} : portState d = .waiting ↔ ∃ t, d.port.transfer = some t ∧ t.mode = .waiting := by
  unfold portState
  cases d.port.transfer with
  | none => simp
  | some t => cases h : t.mode <;> simp [h]

/-- A burner transfer is on the memory side (R13). -/
def BurnerOnBus (d : Device) : Prop := ∃ m, d.arbiter.onBus = some m ∧ m.byEngine = false

/-- The engine claims only with a job (R13). -/
def ClaimSound (d : Device) : Prop := d.engine.claiming = true → d.engine.job ≠ none

/-- The bookkeeping of the memory side before a grant: all of it but that no claim waits while it is FREE (R13). -/
structure BusPre (d : Device) : Prop where
  port : portState d = .forwarding ↔ BurnerOnBus d
  claim : ClaimSound d
  engine : ∀ m, d.arbiter.onBus = some m → m.byEngine = true → m.orphan = false →
    d.engine.claiming = false ∧ d.engine.job ≠ none

theorem busWf_iff {d : Device} :
    BusWf d ↔ BusPre d ∧ (d.arbiter.onBus = none → d.engine.claiming = false ∧ portState d ≠ .waiting) := by
  constructor
  · intro h
    refine ⟨⟨⟨fun hp => ?_, fun ⟨m, bus, by_⟩ => ?_⟩, h.claim, h.engine⟩, h.free⟩
    · obtain ⟨t, ht, mode⟩ := portState_eq_forwarding.1 hp
      exact h.forwarding t ht mode
    · exact portState_eq_forwarding.2 (h.burner m bus by_)
  · rintro ⟨h, free⟩
    exact ⟨fun t ht mode => h.port.1 (portState_eq_forwarding.2 ⟨t, ht, mode⟩),
      fun m bus by_ => portState_eq_forwarding.1 (h.port.2 ⟨m, bus, by_⟩), free, h.claim, h.engine⟩

theorem BusWf.pre {d : Device} (h : BusWf d) : BusPre d := (busWf_iff.1 h).1

/-- While the burner's transfer is on the memory side the rest of the bookkeeping is that the engine's claim has a job. -/
theorem BusWf.of_forwarding {d : Device} (port : portState d = .forwarding) (bus : BurnerOnBus d) (claim : ClaimSound d) :
    BusWf d := by
  obtain ⟨m, hm, by_⟩ := bus
  refine busWf_iff.2 ⟨⟨⟨fun _ => ⟨m, hm, by_⟩, fun _ => port⟩, claim, fun m' hm' by' => ?_⟩, fun none => ?_⟩
  · rw [hm] at hm'
    obtain rfl := Option.some.inj hm'
    simp [by_] at by'
  · simp [hm] at none

section
variable {d e : Device}

/-- The bookkeeping before a grant speaks of these alone. -/
theorem BusPre.congr (h : BusPre d) (port : portState e = .forwarding ↔ portState d = .forwarding)
    (bus : e.arbiter.onBus = d.arbiter.onBus) (engine : e.engine = d.engine) : BusPre e := by
  refine ⟨port.trans ?_, ?_, ?_⟩
  · unfold BurnerOnBus; rw [bus]; exact h.port
  · unfold ClaimSound; rw [engine]; exact h.claim
  · rw [bus, engine]; exact h.engine

theorem portState_congr (h : e.port = d.port) : portState e = portState d := by unfold portState; rw [h]

theorem BusWf.congr (h : BusWf d) (port : e.port = d.port) (bus : e.arbiter = d.arbiter) (engine : e.engine = d.engine) :
    BusWf e := by
  have ps := portState_congr port
  refine busWf_iff.2 ⟨h.pre.congr (by rw [ps]) (by rw [bus]) engine, ?_⟩
  rw [ps, bus, engine]
  exact h.free

end

/-! ### The engine's claim and its job -/

section
variable {d : Device}

theorem claimSound_finishSpan (j : Job) (d : Device) : ClaimSound (finishSpan j d) := fun h => by simp [finishSpan] at h

theorem claimSound_claimBus (j : Job) (d : Device) : ClaimSound (claimBus (setJob j d)) := fun _ => by simp

theorem claimSound_fixLine (j : Job) (i : Nat) (t : Option (List Nat)) (d : Device) : ClaimSound (fixLine j i t d) := by
  unfold fixLine
  extract_lets g step f s out head j'
  split
  · exact claimSound_claimBus _ d
  · exact claimSound_claimBus _ d

theorem claimSound_startLine (j : Job) (i : Nat) (d : Device) : ClaimSound (startLine j i d) := by
  unfold startLine
  extract_lets g
  split
  · exact claimSound_claimBus _ d
  · exact claimSound_fixLine j i none d

theorem claimSound_lineWork (j : Job) (fuel : Nat) (d : Device) : ClaimSound (lineWork j fuel d) := by
  induction fuel generalizing d with
  | zero => exact claimSound_finishSpan j d
  | succ fuel ih =>
    unfold lineWork
    extract_lets i
    split_ifs
    · exact claimSound_finishSpan j d
    · exact ih _
    · exact claimSound_startLine j i d

theorem claimSound_beginLines (j : Job) (d : Device) : ClaimSound (beginLines j d) := claimSound_lineWork j _ d

theorem claimSound_continueGather (j : Job) (d : Device) : ClaimSound (continueGather j d) := by
  unfold continueGather
  split
  · exact claimSound_beginLines _ _
  · extract_lets j'
    split_ifs
    · exact claimSound_finishSpan j d
    · exact claimSound_beginLines _ _
    · exact claimSound_claimBus _ d
    · exact claimSound_claimBus _ d

theorem claimSound_examineOrder (order : List SpanRef) (h : ClaimSound d) : ClaimSound (examineOrder order d) := by
  induction order generalizing d with
  | nil => exact h
  | cons x rest ih =>
    unfold examineOrder
    extract_lets d1
    split
    · exact ih h
    · next p _ =>
      extract_lets d2
      have taken : ClaimSound d2 := claimSound_continueGather _ _
      split_ifs
      · exact ih h
      · exact ih taken
      · exact taken

theorem ClaimSound.wakeEngine (h : ClaimSound d) : ClaimSound (wakeEngine d) := by
  unfold Machine.wakeEngine
  split
  · exact claimSound_examineOrder _ h
  · exact h

theorem ClaimSound.testTransfer (h : ClaimSound d) (j : Job) : ClaimSound (testTransfer j d) := by
  unfold Machine.testTransfer
  split
  · exact claimSound_continueGather j d
  · extract_lets i
    split_ifs
    · exact claimSound_beginLines _ _
    · exact claimSound_claimBus _ d
    · exact claimSound_fixLine j i none d
  · exact claimSound_claimBus _ d
  · exact claimSound_claimBus _ d
  · exact h

theorem ClaimSound.finishRun (h : ClaimSound d) (j : Job) : ClaimSound (finishRun j d) := by
  unfold Machine.finishRun
  extract_lets g
  split
  · exact claimSound_continueGather _ _
  · unfold computeLine
    split
    · exact claimSound_beginLines _ _
    · exact claimSound_fixLine _ _ _ _
  · exact claimSound_claimBus _ d
  · exact claimSound_beginLines _ _
  · exact h

theorem claimSound_setJob (j : Job) (d : Device) : ClaimSound (setJob j d) := fun _ => by simp

theorem ClaimSound.engineCompletion (h : ClaimSound d) (m : MemTransfer) (data : List Beat) :
    ClaimSound (engineCompletion m data d) := by
  unfold Machine.engineCompletion
  split
  · exact h
  · extract_lets j'
    refine ClaimSound.wakeEngine ?_
    split
    · exact (claimSound_setJob _ d).testTransfer _
    · exact (claimSound_setJob _ d).finishRun _

theorem ClaimSound.retestEngine (h : ClaimSound d) : ClaimSound (retestEngine d) := by
  unfold Machine.retestEngine
  split
  · exact h
  · exact (h.testTransfer _).wakeEngine

end

/-! ### Grants (R13, R14) -/

section
variable {d : Device}

/-- A grant to the engine keeps the bookkeeping; with nothing issued no claim of the engine's waits. -/
theorem grantEngineIfFree_pre (h : BusPre d) : BusPre (grantEngineIfFree d) ∧ (grantEngineIfFree d).port = d.port ∧
    ((grantEngineIfFree d).arbiter.onBus = none → (grantEngineIfFree d).engine.claiming = false) := by
  unfold grantEngineIfFree
  split
  · next granted =>
    simp only [Bool.and_eq_true, Option.isNone_iff_eq_none] at granted
    obtain ⟨bus, -⟩ := granted
    have idle : portState d ≠ .forwarding := fun hp => by
      obtain ⟨m, hm, -⟩ := h.port.1 hp
      simp [hm] at bus
    have sound := h.claim.retestEngine
    unfold grantEngine
    extract_lets d1
    have bus1 : d1.arbiter.onBus = none := by simp [d1, bus]
    have port1 : d1.port = d.port := by simp [d1]
    split
    · next claims =>
      unfold issueEngine
      cases hj : d1.engine.job with
      | none => exact absurd hj (sound claims)
      | some j =>
        refine ⟨⟨⟨fun hp => absurd hp ?_, ?_⟩, fun hc => by simp at hc, fun m hm _ _ => by simp [hj]⟩, by simp [port1], by simp⟩
        · rwa [portState_congr (d := d) (by simp [port1])]
        · rintro ⟨m, hm, by_⟩
          simp only [setBus_onBus, Option.some.injEq] at hm
          simp [← hm, engineTransfer] at by_
    · next claims =>
      have none1 : ∀ m, d1.arbiter.onBus ≠ some m := by simp [bus1]
      refine ⟨⟨⟨fun hp => absurd hp ?_, fun ⟨m, hm, _⟩ => absurd hm (none1 m)⟩, sound, fun m hm => absurd hm (none1 m)⟩, port1, ?_⟩
      · rwa [portState_congr port1]
      · exact fun _ => by simpa using claims
  · next refused =>
    refine ⟨h, rfl, fun bus => ?_⟩
    simpa [bus] using refused

/-- The port's and the memory side's state after a forming: the part on the memory side, or HELD (R7, R10). -/
theorem forwardPart_cases (t : BurnerTransfer) (d : Device) : (forwardPart t d).engine = d.engine ∧
    ((∃ u, (forwardPart t d).port.transfer = some u ∧ u.mode = .held ∧ (forwardPart t d).arbiter = d.arbiter) ∨
      (∃ u m, (forwardPart t d).port.transfer = some u ∧ u.mode = .forwarding ∧
        (forwardPart t d).arbiter.onBus = some m ∧ m.byEngine = false)) := by
  refine ⟨by simp, ?_⟩
  unfold forwardPart
  extract_lets f
  split
  · exact .inl ⟨_, rfl, rfl, by simp [f]⟩
  · exact .inr ⟨_, _, rfl, rfl, rfl, rfl⟩

/-- The port's and the memory side's state after a grant to the burner (R2, R7). -/
theorem grantBurner_cases {t : BurnerTransfer} (ht : d.port.transfer = some t) : (grantBurner d).engine = d.engine ∧
    ((∃ u, (grantBurner d).port.transfer = some u ∧ u.mode = .held ∧ (grantBurner d).arbiter.onBus = d.arbiter.onBus) ∨
      (∃ u m, (grantBurner d).port.transfer = some u ∧ u.mode = .forwarding ∧
        (grantBurner d).arbiter.onBus = some m ∧ m.byEngine = false)) := by
  refine ⟨by simp, ?_⟩
  simp only [grantBurner, ht]
  split
  · exact .inr ⟨_, _, rfl, rfl, rfl, rfl⟩
  · rcases (forwardPart_cases t { d with arbiter := { d.arbiter with passOver := false } }).2 with ⟨u, hu, mode, bus⟩ | h
    · exact .inl ⟨u, hu, mode, by rw [bus]⟩
    · exact .inr h

/-- A grant to the burner keeps the bookkeeping and leaves none of its claims waiting on a free memory side. -/
theorem grantBurnerIfFree_pre (h : BusPre d) : BusPre (grantBurnerIfFree d) ∧ (grantBurnerIfFree d).engine = d.engine ∧
    ((grantBurnerIfFree d).arbiter.onBus = none → portState (grantBurnerIfFree d) ≠ .waiting) := by
  unfold grantBurnerIfFree
  split
  · next granted =>
    simp only [Bool.and_eq_true, Option.isNone_iff_eq_none, burnerClaim, beq_iff_eq] at granted
    obtain ⟨bus, waits⟩ := granted
    obtain ⟨t, ht, -⟩ := portState_eq_waiting.1 waits
    obtain ⟨engine, hu⟩ := grantBurner_cases ht
    have claim : ClaimSound (grantBurner d) := by unfold ClaimSound; rw [engine]; exact h.claim
    rcases hu with ⟨u, hu, mode, bus'⟩ | ⟨u, m, hu, mode, hm, by_⟩
    · have held : portState (grantBurner d) = .held := by simp [portState, hu, mode]
      rw [bus] at bus'
      refine ⟨⟨⟨fun hp => by simp [held] at hp, fun ⟨m, hm, _⟩ => by simp [bus'] at hm⟩, claim, fun m hm => by simp [bus'] at hm⟩,
        engine, fun _ => by simp [held]⟩
    · have forwards : portState (grantBurner d) = .forwarding := portState_eq_forwarding.2 ⟨u, hu, mode⟩
      exact ⟨(BusWf.of_forwarding forwards ⟨m, hm, by_⟩ claim).pre, engine, fun _ => by simp [forwards]⟩
  · next refused =>
    refine ⟨h, rfl, fun bus waits => refused ?_⟩
    simp [bus, burnerClaim, waits]

/-- The arbiter's grant completes the bookkeeping (R13). -/
theorem arbitrate_busWf (h : BusPre d) : BusWf (arbitrate d) := by
  unfold arbitrate
  split
  · next busy =>
    exact busWf_iff.2 ⟨h, fun none => by simp [none] at busy⟩
  · split
    · have marked : BusPre (markPassOver d) := h.congr Iff.rfl rfl rfl
      obtain ⟨pre1, -, claim1⟩ := grantEngineIfFree_pre marked
      obtain ⟨pre2, engine2, waits2⟩ := grantBurnerIfFree_pre pre1
      refine busWf_iff.2 ⟨pre2, fun bus => ⟨?_, waits2 bus⟩⟩
      rw [engine2]
      refine claim1 ?_
      by_contra busy
      have stays : grantBurnerIfFree (grantEngineIfFree (markPassOver d)) = grantEngineIfFree (markPassOver d) := by
        simp [grantBurnerIfFree, busy]
      exact busy (stays ▸ bus)
    · obtain ⟨pre1, -, waits1⟩ := grantBurnerIfFree_pre h
      obtain ⟨pre2, port2, claim2⟩ := grantEngineIfFree_pre pre1
      refine busWf_iff.2 ⟨pre2, fun bus => ⟨claim2 bus, ?_⟩⟩
      rw [portState_congr port2]
      refine waits1 ?_
      by_contra busy
      have stays : grantEngineIfFree (grantBurnerIfFree d) = grantBurnerIfFree d := by simp [grantEngineIfFree, busy]
      exact busy (stays ▸ bus)

end

/-! ### Write beats -/

/-- From part d to part e the burner's transfer stays on the memory side with the arbiter as it was, and the engine's claim has a job. -/
structure SideKept (d e : Device) : Prop where
  burner : ∀ m, d.arbiter.onBus = some m → m.byEngine = false → e.arbiter = d.arbiter
  claim : ClaimSound d → ClaimSound e

theorem SideKept.refl (d : Device) : SideKept d d := ⟨fun _ _ _ => rfl, id⟩

theorem SideKept.trans {a d e : Device} (h1 : SideKept a d) (h2 : SideKept d e) : SideKept a e where
  burner := fun m hm by_ => by
    have same := h1.burner m hm by_
    rw [← same] at hm
    exact (h2.burner m hm by_).trans same
  claim := h2.claim ∘ h1.claim

section
variable {a d e : Device}

/-- An operation that leaves arbiter, job and claim alone. -/
theorem SideKept.of_same (h : SideKept a d)
    (same : e.arbiter = d.arbiter ∧ e.engine.job = d.engine.job ∧ e.engine.claiming = d.engine.claiming) : SideKept a e := by
  obtain ⟨arbiter, job, claiming⟩ := same
  exact h.trans ⟨fun _ _ _ => arbiter, by unfold ClaimSound; rw [job, claiming]; exact id⟩

theorem SideKept.ite {p : Prop} [Decidable p] (h1 : SideKept a d) (h2 : SideKept a e) : SideKept a (if p then d else e) := by
  split
  · exact h1
  · exact h2

theorem SideKept.wakeEngine (h : SideKept a d) : SideKept a (wakeEngine d) :=
  h.trans ⟨fun _ _ _ => by simp, ClaimSound.wakeEngine⟩

/-- An abort leaves the burner's transfer on the memory side (R119). -/
theorem SideKept.abortJob (h : SideKept a d) : SideKept a (abortJob d) :=
  h.trans
    { burner := fun m hm by_ => by
        have stays : d.arbiter.onBus.map orphanTransfer = d.arbiter.onBus := by rw [hm]; simp [orphanTransfer, by_]; cases m; simp_all
        show { d.arbiter with onBus := d.arbiter.onBus.map orphanTransfer } = d.arbiter
        rw [stays]
      claim := fun _ hc => by simp [Machine.abortJob] at hc }

theorem SideKept.abortJobOf (h : SideKept a d) (s : Nat) : SideKept a (abortJobOf s d) := by
  unfold Machine.abortJobOf
  split
  · exact .ite h.abortJob h
  · exact h

theorem SideKept.freeSpans (h : SideKept a d) (s : Nat) : SideKept a (freeSpans s d) :=
  SideKept.of_same (e := setSpans s [] (leaveOrder s (Machine.abortJobOf s d))) (h.abortJobOf s) (by simp)

theorem SideKept.beginSlot (h : SideKept a d) (s : Nat) : SideKept a (beginSlot s d) := by
  have disposed : SideKept a (disposeFrame s d) := h.of_same (by simp)
  exact (disposed.freeSpans s).of_same (e := startTable (fillWith s _ (Machine.freeSpans s (disposeFrame s d)))) (by simp)

theorem SideKept.closeFill (h : SideKept a d) (s : Nat) (lost : Bool) : SideKept a (closeFill s lost d) := by
  unfold Machine.closeFill queueSpans
  exact h.of_same (by split <;> simp)

theorem SideKept.closeOpenFill (h : SideKept a d) (lost : Bool) : SideKept a (closeOpenFill lost d) := by
  unfold Machine.closeOpenFill
  split
  · exact .ite (h.closeFill _ lost) h
  · exact h

theorem SideKept.checkBeat (h : SideKept a d) (s i q : Nat) (b : Beat) (x : Enables) : SideKept a (checkBeat s i q b x d) := h.of_same (by simp)

theorem SideKept.startRun (h : SideKept a d) (s : Nat) : SideKept a (startRun s d) := by
  have started : SideKept a { d with
      control := { d.control with run := .running }, ring := { d.ring with draining := none, nextFrame := 0 } } := h.of_same ⟨rfl, rfl, rfl⟩
  exact (started.freeSpans s).of_same (e := setLock .locked (startTable (fillWith s false (Machine.freeSpans s _)))) (by simp)

theorem SideKept.beginWrite (h : SideKept a d) (s : Nat) : SideKept a (beginWrite s d) := by
  have lost : SideKept a (loseLock d) := h.of_same (by simp)
  refine .ite ?_ (.ite ((h.closeOpenFill false).beginSlot s) ((SideKept.ite lost (lost.closeOpenFill true)).beginSlot s))
  exact (h.beginSlot s).of_same (e := setLock .locked (Machine.beginSlot s d)) (by simp)

theorem SideKept.markStale (h : SideKept a d) (t : Nat) : SideKept a (markStale t d) := by
  unfold Machine.markStale
  have marked : SideKept a (modifySlot t (fun e => { e with flags := { e.flags with stale := true } }) d) := h.of_same (by simp)
  exact .ite h ((marked.abortJobOf t).of_same (by simp))

theorem SideKept.runningBeat (h : SideKept a d) (first : Bool) (s i q : Nat) (b : Beat) (x : Enables) :
    SideKept a (runningBeat first s i q b x d) := by
  have lost := (h.closeOpenFill true).markStale s
  refine .ite ((h.beginWrite s).checkBeat s i q b x) (.ite ?_ (.ite ?_ (h.markStale s)))
  · exact .ite ((h.checkBeat s i q b x).closeFill s false) (h.checkBeat s i q b x)
  · exact lost.of_same (e := loseLock (setLock .seeking (Machine.markStale s (Machine.closeOpenFill true d)))) (by simp)

theorem SideKept.takeWriteBeat (h : SideKept a d) (first outside : Bool) (y : Nat) (b : Beat) (x : Enables) :
    SideKept a (takeWriteBeat first outside y b x d) := by
  unfold Machine.takeWriteBeat
  split
  · exact h
  · exact h
  · split
    · exact h
    · exact .ite (((h.startRun _).checkBeat _ _ _ b x).wakeEngine) h
    · exact (h.runningBeat first _ _ _ b x).wakeEngine

end

/-! ### Every block -/

section
variable {d : Device}

/-- The release of a hold takes no transfer off the memory side and puts none on it (R11). -/
theorem releasePort_forwarding (d : Device) : portState (releasePort d) = .forwarding ↔ portState d = .forwarding := by
  rw [portState_eq_forwarding, portState_eq_forwarding, releasePort_transfer]
  cases d.port.transfer with
  | none => simp
  | some t => cases h : t.mode <;> simp [releaseTransfer, h]

theorem unchangedRest_forwarding (ended : Bool) (d : Device) :
    portState (freePort ended d) = .forwarding ↔ portState d = .forwarding := by
  rw [portState_eq_forwarding, portState_eq_forwarding]
  simp only [freePort]
  cases d.port.transfer with
  | none => simp
  | some t => cases h : t.mode <;> simp [unchangedRest, releaseTransfer, h]

/-- An expiry or a tick leaves the transfer on the memory side with its owner (R134). -/
theorem expireHold_pre (h : BusPre d) : BusPre (expireHold d) := by
  unfold expireHold
  split
  · refine h.congr ((releasePort_forwarding _).trans ?_) (by simp) (by simp)
    rw [portState_congr (d := d) (by simp)]
  · exact h

theorem tickHold_pre (h : BusPre d) : BusPre (tickHold d) := by
  unfold tickHold
  split
  · split
    · exact h.congr Iff.rfl rfl rfl
    · exact expireHold_pre h
  · exact h

theorem releaseByWriteBack_forwarding (s i : Nat) (d : Device) :
    portState (releaseByWriteBack s i d) = .forwarding ↔ portState d = .forwarding := by
  unfold releaseByWriteBack
  split
  · split
    · refine (releasePort_forwarding _).trans ?_
      rw [portState_congr (d := d) (by simp)]
    · exact Iff.rfl
  · exact Iff.rfl

theorem finishRun_forwarding (j : Job) (d : Device) : portState (finishRun j d) = .forwarding ↔ portState d = .forwarding := by
  unfold finishRun
  extract_lets
  split
  · rw [portState_congr (d := d) (by simp)]
  · rw [portState_congr (d := d) (by simp)]
  · rw [portState_congr (d := d) (by simp)]
  · unfold finishWriteBack
    extract_lets d1 d2
    have same : portState d2 = portState d := portState_congr (by simp only [d2, d1]; split <;> simp [tallyLine])
    rw [portState_congr (beginLines_port _ _), releaseByWriteBack_forwarding, same]
  · exact Iff.rfl

theorem engineCompletion_forwarding (m : MemTransfer) (data : List Beat) (d : Device) :
    portState (engineCompletion m data d) = .forwarding ↔ portState d = .forwarding := by
  unfold engineCompletion
  split
  · exact Iff.rfl
  · simp only [portState_congr (wakeEngine_port _)]
    split
    · rw [portState_congr (d := d) (by simp)]
    · rw [finishRun_forwarding, portState_congr (d := d) (by simp)]

/-- With no transfer on the memory side and none that forwards, the rest is that the engine's claim has a job. -/
theorem BusPre.of_free (bus : d.arbiter.onBus = none) (port : portState d ≠ .forwarding) (claim : ClaimSound d) : BusPre d :=
  ⟨⟨fun h => absurd h port, fun ⟨m, hm, _⟩ => by simp [bus] at hm⟩, claim, fun m hm => by simp [bus] at hm⟩

theorem afterPart_not_forwarding {t u : BurnerTransfer} (h : afterPart t = some u) : u.mode ≠ .forwarding := by
  unfold afterPart at h
  split_ifs at h
  · obtain rfl := Option.some.inj h; simp
  · obtain rfl := Option.some.inj h; simp

/-- A completion keeps the bookkeeping (R13). -/
theorem completeTransfer_busWf (h : BusWf d) (m : MemTransfer) (data : List Beat) (bus : d.arbiter.onBus = some m) :
    BusWf (completeTransfer m data d) := by
  unfold completeTransfer
  extract_lets d1
  have free : d1.arbiter.onBus = none := rfl
  have claim : ClaimSound d1 := h.claim
  refine arbitrate_busWf ?_
  split
  · next engine =>
    have idle : portState d1 ≠ .forwarding := fun hp => by
      obtain ⟨m', hm, by_⟩ := h.pre.port.1 hp
      rw [bus] at hm
      obtain rfl := Option.some.inj hm
      simp [engine] at by_
    split
    · exact .of_free free idle claim
    · exact .of_free (by simp [free]) (by rwa [ne_eq, engineCompletion_forwarding]) (claim.engineCompletion m data)
  · refine .of_free (by simp [free]) (fun hp => ?_) claim
    obtain ⟨u, hu, mode⟩ := portState_eq_forwarding.1 hp
    simp only [completeBurner, setTransfer_transfer, Option.bind_eq_some_iff] at hu
    obtain ⟨t, -, hu⟩ := hu
    exact afterPart_not_forwarding hu mode

/-- Freeing the port with the engine at its starting values and its transfers left to complete by themselves (R16, R17). -/
theorem freePort_pre {r : Device} (ended : Bool) (h : BusWf d) (port : r.port = d.port)
    (bus : r.arbiter.onBus = d.arbiter.onBus.map orphanTransfer) (engine : r.engine = Engine.start) : BusPre (freePort ended r) := by
  refine ⟨(unchangedRest_forwarding ended r).trans ?_, ?_, fun m hm by_ alive => ?_⟩
  · rw [portState_congr port, h.pre.port]
    simp only [BurnerOnBus, freePort, bus]
    cases hb : d.arbiter.onBus <;> simp [orphanTransfer]
  · intro hc
    simp [freePort, engine, Engine.start] at hc
  · simp only [freePort, bus, Option.map_eq_some_iff] at hm
    obtain ⟨m', -, rfl⟩ := hm
    simp only [orphanTransfer] at by_ alive
    simp [by_] at alive

theorem endHold_port (d : Device) : (endHold d).port = d.port := by
  unfold endHold
  split <;> simp

theorem endHold_arbiter (d : Device) : (endHold d).arbiter = d.arbiter := by
  unfold endHold
  split <;> simp

theorem endQuery_blocks (d : Device) : (endQuery d).port = d.port ∧ (endQuery d).arbiter = d.arbiter ∧ (endQuery d).engine = d.engine := by
  unfold endQuery
  split <;> simp

end

theorem busWf_keptByBlocks : KeptByBlocks BusWf where
  same := fun _ _ s h => h.congr s.port s.arbiter s.engine
  tick := fun _ h _ => arbitrate_busWf (tickHold_pre h.pre)
  start := fun w x n d h idle => by
    refine arbitrate_busWf ⟨⟨fun hp => ?_, fun ⟨m, hm, by_⟩ => ?_⟩, h.claim, h.engine⟩
    · simp [portState, newTransfer] at hp
    · obtain ⟨t, ht, -⟩ := h.burner m hm by_
      simp [idle] at ht
  accept := fun b e d h due => by
    unfold writeBeatDue at due
    unfold acceptWrite
    cases ht : d.port.transfer with
    | none => simpa [ht] using h
    | some t =>
      simp only [ht, Option.elim_some, Bool.and_eq_true, beq_iff_eq] at due
      obtain ⟨m, hm, by_⟩ := h.forwarding t ht due.1.2
      have side := (SideKept.refl (acceptBeat t b e d)).takeWriteBeat (t.next == 0) t.outside (t.addr + 4 * t.next) b e
      refine .of_forwarding ?_ ⟨m, ?_, by_⟩ (side.claim h.claim)
      · rw [portState_congr (takeWriteBeat_port ..)]
        simp [portState, acceptBeat, due.1.2]
      · rw [side.burner m hm by_]
        exact hm
  back := fun b d h due => by
    unfold returnBeat
    cases ht : d.port.transfer with
    | none => exact h
    | some t =>
      simp only [readBeatDue, ht, Option.elim_some, Bool.and_eq_true, beq_iff_eq] at due
      obtain ⟨m, hm, by_⟩ := h.forwarding t ht due.1.2
      refine .of_forwarding ?_ ⟨m, by simpa using hm, by_⟩ ?_
      · simp [portState, giveBeat, due.1.2]
      · unfold ClaimSound
        simpa using h.claim
  complete := fun m l d h bus _ => completeTransfer_busWf h m l bus
  expire := fun _ h _ => arbitrate_busWf (expireHold_pre h.pre)
  reset := fun d h => arbitrate_busWf (freePort_pre true h rfl rfl rfl)
  arm := fun d h _ => by
    refine busWf_iff.2 ⟨⟨h.pre.port, h.claim, h.engine⟩, h.free⟩
  endRun := fun d h _ => by
    unfold endRunPart
    extract_lets ended d1 d2 d3 d4
    obtain ⟨port4, bus4, engine4⟩ := endQuery_blocks d3
    refine arbitrate_busWf (freePort_pre ended h ?_ ?_ ?_)
    · show d4.port = d.port
      rw [port4]
      simp [d3, d2, d1, clearRun, endHold_port]
    · show d4.arbiter.onBus = _
      rw [bus4]
      simp [d3, d2, d1, clearRun, abortJob, endHold_arbiter]
    · exact engine4

end Sys2Proof.Machine

namespace Sys2Proof.Bus

open Sys2Proof.Machine

/-- Settles O7: what every command does between two grants keeps a job behind the engine's claim and the burner's transfer with its
port, and the grant at its end leaves no claim waiting on a free memory side. -/
theorem memorySideBookkeepingIsKept : Obligations.MemorySideBookkeepingIsKept := busWf_keptByBlocks.keptByStep

end Sys2Proof.Bus
end

section
/-! PROOFS. The ring tracker's bookkeeping (R20, R22, R124): most operations leave it as it is (`SameRing`); the close of a fill, the
begin of a slot and the start and end of a drain change it together with the record. -/

namespace Sys2Proof.Machine

/-! ### Operations that leave the bookkeeping as it is -/

/-- Parts d and e agree in all that the ring tracker's bookkeeping speaks of. -/
structure SameRing (d e : Device) : Prop where
  run : e.control.run = d.control.run
  geometry : e.control.geometry = d.control.geometry
  length : e.ring.slots.length = d.ring.slots.length
  state : ∀ s, (slotAt e s).state = (slotAt d s).state
  lock : e.ring.lock = d.ring.lock
  fillOpen : e.ring.fillOpen = d.ring.fillOpen
  fillSlot : e.ring.fillSlot = d.ring.fillSlot
  draining : e.ring.draining = d.ring.draining
  record : e.delivery.record.map DrainRecord.slot = d.delivery.record.map DrainRecord.slot

theorem SameRing.refl (d : Device) : SameRing d d := ⟨rfl, rfl, rfl, fun _ => rfl, rfl, rfl, rfl, rfl, rfl⟩

theorem SameRing.trans {a d e : Device} (h1 : SameRing a d) (h2 : SameRing d e) : SameRing a e :=
  ⟨h2.run.trans h1.run, h2.geometry.trans h1.geometry, h2.length.trans h1.length, fun s => (h2.state s).trans (h1.state s),
    h2.lock.trans h1.lock, h2.fillOpen.trans h1.fillOpen, h2.fillSlot.trans h1.fillSlot, h2.draining.trans h1.draining,
    h2.record.trans h1.record⟩

/-- Every entry of the slot table is EMPTY exactly if every slot is. -/
theorem forall_slots_empty_iff (d : Device) :
    (∀ e ∈ d.ring.slots, e.state = .empty) ↔ ∀ s, (slotAt d s).state = .empty := by
  constructor
  · intro h s
    by_cases hs : s < d.ring.slots.length
    · simp only [slotAt, List.getD_eq_getElem?_getD, List.getElem?_eq_getElem hs, Option.getD_some]
      exact h _ (List.getElem_mem hs)
    · rw [slotAt_beyond d (by omega)]; rfl
  · intro h e he
    obtain ⟨s, hs, rfl⟩ := List.getElem_of_mem he
    simpa [slotAt, List.getD_eq_getElem?_getD, List.getElem?_eq_getElem hs] using h s

theorem RingWf.same {d e : Device} (h : RingWf d) (s : SameRing d e) : RingWf e where
  entries := by rw [s.run, s.length, s.geometry]; exact h.entries
  idle := by
    rw [s.run, forall_slots_empty_iff, s.lock, s.fillOpen, s.draining]
    intro hr
    obtain ⟨h1, h2⟩ := h.idle hr
    exact ⟨fun i => (s.state i).trans ((forall_slots_empty_iff d).1 h1 i), h2⟩
  locked := by rw [s.run, s.lock]; exact h.locked
  seeking := by rw [s.lock, s.fillOpen]; exact h.seeking
  filled := by rw [s.fillOpen, s.fillSlot]; exact h.filled
  filling := fun i => by rw [s.state, s.fillSlot, s.fillOpen]; exact h.filling i
  draining := fun i => by rw [s.state, s.draining]; exact h.draining i
  record := by rw [s.record, s.draining]; exact h.record

section
variable {a d e : Device}

theorem SameRing.of_same (h : SameRing a d) (same : e.control = d.control ∧ e.ring = d.ring ∧ e.delivery = d.delivery) : SameRing a e := by
  obtain ⟨control, ring, delivery⟩ := same
  exact h.trans ⟨by rw [control], by rw [control], by rw [ring], fun s => by unfold slotAt; rw [ring], by rw [ring], by rw [ring],
    by rw [ring], by rw [ring], by rw [delivery]⟩

/-- Only the record is changed, its slot being kept. -/
theorem SameRing.of_record (h : SameRing a d) (record : e.delivery.record.map DrainRecord.slot = d.delivery.record.map DrainRecord.slot)
    (same : e.control = d.control ∧ e.ring = d.ring) : SameRing a e := by
  obtain ⟨control, ring⟩ := same
  exact h.trans ⟨by rw [control], by rw [control], by rw [ring], fun s => by unfold slotAt; rw [ring], by rw [ring], by rw [ring],
    by rw [ring], by rw [ring], record⟩

theorem SameRing.ite {p : Prop} [Decidable p] (h1 : SameRing a d) (h2 : SameRing a e) : SameRing a (if p then d else e) := by
  split
  · exact h1
  · exact h2

/-- A slot's flags and lines may change, its state being kept. -/
theorem SameRing.modifySlot (h : SameRing a d) (s : Nat) (f : SlotEntry → SlotEntry) (hf : ∀ x, (f x).state = x.state) :
    SameRing a (modifySlot s f d) :=
  h.trans
    { SameRing.refl d with
      length := by simp
      state := fun i => by
        by_cases hi : i = s
        · subst hi
          by_cases hs : i < d.ring.slots.length
          · rw [slotAt_modifySlot_self f d hs, hf]
          · rw [slotAt_beyond d (by omega), slotAt_beyond _ (by simpa using hs)]
        · rw [slotAt_modifySlot_ne f d hi] }

theorem SameRing.bump (h : SameRing a d) (c : Counter) : SameRing a (bump c d) := h.of_same (by simp)

theorem SameRing.raise (h : SameRing a d) (c : Cause) : SameRing a (raise c d) := h.of_same (by simp)

theorem SameRing.loseLine (h : SameRing a d) (s : Nat) (first : Bool) : SameRing a (loseLine s first d) := by
  have lossy := h.modifySlot s (fun e => { e with flags := { e.flags with lossy := true } }) fun _ => rfl
  exact SameRing.raise (.ite (lossy.bump _) lossy) _

theorem SameRing.handOver (h : SameRing a d) (s i : Nat) (c : Causes) (first : Bool) : SameRing a (handOver s i c first d) := by
  unfold Machine.handOver
  extract_lets d1 r d2
  have counted : SameRing a d1 := .ite (h.bump _) h
  have recorded : SameRing a d2 := counted.of_same (by simp [d2])
  exact .ite (recorded.loseLine s first) recorded

theorem SameRing.report (h : SameRing a d) (x : Ending) : SameRing a (report x d) := h.of_same (by simp)

/-! The delivery unit -/

theorem SameRing.onRecord (h : SameRing a d) (f : DrainRecord → DrainRecord) (hf : ∀ r, (f r).slot = r.slot) :
    SameRing a (onRecord f d) := by
  refine h.of_record ?_ (by simp)
  simp only [onRecord_record, Option.map_map]
  cases d.delivery.record with
  | none => rfl
  | some r => simp [hf]

theorem SameRing.settleLine (h : SameRing a d) (s i : Nat) (x : LineEntry) : SameRing a (settleLine s i x d) :=
  (h.onRecord (fixEntry d i x) fun _ => rfl).of_same (e := countDecision s i x _) (by simp)

theorem SameRing.takeHold (h : SameRing a d) (i : Nat) : SameRing a (takeHold i d) := by
  have held := h.onRecord (fun r => { r with lines := modifyAt (fun _ => .held) i r.lines, holdCount := r.holdCount + 1 }) fun _ => rfl
  exact held.of_record (e := Machine.takeHold i d) (by simp [Machine.takeHold]) (by simp)

theorem SameRing.decideLine (h : SameRing a d) (r : DrainRecord) (i : Nat) : SameRing a (decideLine r i d) := by
  unfold Machine.decideLine
  split
  · exact h.takeHold i
  · exact h.settleLine _ i _

theorem SameRing.askSample (h : SameRing a d) (i q : Nat) : SameRing a (askSample i q d).1 := by
  unfold Machine.askSample
  split
  · exact h
  · exact .ite (h.decideLine _ i) h

theorem SameRing.chargeHold (h : SameRing a d) (c : Nat) : SameRing a (chargeHold c d) := by
  unfold Machine.chargeHold
  split
  · exact h
  · have charged := h.onRecord (chargeRecord c) fun _ => rfl
    exact .ite (charged.raise _) charged

theorem SameRing.releaseHold (h : SameRing a d) : SameRing a (releasePort (dropHold d)) := h.of_record (by simp) (by simp)

theorem SameRing.releaseByWriteBack (h : SameRing a d) (s i : Nat) : SameRing a (releaseByWriteBack s i d) := by
  unfold Machine.releaseByWriteBack
  split
  · exact .ite ((h.chargeHold _).settleLine s i .handled).releaseHold h
  · exact h

theorem SameRing.expireHold (h : SameRing a d) : SameRing a (expireHold d) := by
  unfold Machine.expireHold
  split
  · exact (((h.chargeHold _).bump _).settleLine _ _ _).releaseHold
  · exact h

theorem SameRing.tickHold (h : SameRing a d) : SameRing a (tickHold d) := by
  unfold Machine.tickHold
  split
  · exact .ite (h.of_record rfl ⟨rfl, rfl⟩) h.expireHold
  · exact h

theorem SameRing.handOverClosing (h : SameRing a d) : SameRing a (handOverClosing d) := by
  unfold Machine.handOverClosing
  split
  · exact h
  · exact h.of_record (by simp) (by simp)

theorem SameRing.trackBeat (h : SameRing a d) (p : Passing) : SameRing a (trackBeat p d) := by
  have tracked : SameRing a { d with delivery := { d.delivery with context := p.context, countedHead := p.countedHead } } :=
    h.of_record rfl ⟨rfl, rfl⟩
  exact .ite (tracked.bump _) tracked

theorem SameRing.passThrough (h : SameRing a d) (t : Option BeatTag) (b : Beat) : SameRing a (passThrough t b d).1 := by
  cases t with
  | none => exact h
  | some t =>
    unfold Machine.passThrough Machine.deliverBeat
    simp only
    split
    · next r _ =>
      have signed : SameRing a { d with delivery := { d.delivery with closing := some (signBeat (passBeat d r t b) r) } } :=
        h.of_record rfl ⟨rfl, rfl⟩
      exact .ite (signed.trackBeat _).handOverClosing (signed.trackBeat _)
    · split
      · next r hr =>
        have signed : SameRing a { d with delivery := { d.delivery with record := some (signBeat (passBeat d r t b) r) } } :=
          h.of_record (by simp [hr, signBeat]) ⟨rfl, rfl⟩
        exact signed.trackBeat _
      · exact h

/-! The repair engine and the line checker -/

theorem SameRing.finishWriteBack (h : SameRing a d) (j : Job) : SameRing a (finishWriteBack j d) := by
  have moved : SameRing a (moveProgress j d) := h.of_same (by simp)
  have tallied := SameRing.ite (p := reached (moveProgress j d) j.slot (progressOf d j) = true) moved
    (moved.of_same (e := tallyLine j (moveProgress j d)) (by simp))
  exact (tallied.releaseByWriteBack j.slot (progressOf d j)).of_same (e := beginLines j _) (by simp)

theorem SameRing.finishRun (h : SameRing a d) (j : Job) : SameRing a (finishRun j d) := by
  unfold Machine.finishRun
  split
  · exact h.of_same (by simp)
  · exact h.of_same (by simp)
  · exact h.of_same (by simp)
  · exact h.finishWriteBack j
  · exact h

theorem SameRing.testTransfer (h : SameRing a d) (j : Job) : SameRing a (testTransfer j d) := h.of_same (by simp)

theorem SameRing.setJob (h : SameRing a d) (j : Job) : SameRing a (setJob j d) := h.of_same (by simp)

theorem SameRing.wakeEngine (h : SameRing a d) : SameRing a (wakeEngine d) := h.of_same (by simp)

theorem SameRing.engineCompletion (h : SameRing a d) (m : MemTransfer) (data : List Beat) : SameRing a (engineCompletion m data d) := by
  unfold Machine.engineCompletion
  split
  · exact h
  · exact (SameRing.ite ((h.setJob _).testTransfer _) ((h.setJob _).finishRun _)).wakeEngine

theorem SameRing.setStatus (h : SameRing a d) (i : Nat) (x : LineStatus) : SameRing a (setStatus i x d) := h.of_same (by simp)

theorem SameRing.setContext (h : SameRing a d) (c : Option OpenLine) : SameRing a (setContext c d) := h.of_same (by simp)

theorem SameRing.tearLine (h : SameRing a d) (s : Nat) (c : OpenLine) : SameRing a (tearLine s c d) :=
  ((h.setStatus _ _).setContext Option.none).handOver _ _ _ _

theorem SameRing.endLine (h : SameRing a d) (s : Nat) (b : Beat) (c : OpenLine) : SameRing a (endLine s b c d) := by
  unfold Machine.endLine
  extract_lets causes d1 d2 d3
  have checked : SameRing a d1 := h.bump _
  have judged : SameRing a d3 := (SameRing.ite (checked.bump _) checked).setContext Option.none
  exact .ite ((judged.setStatus _ _).handOver _ _ _ _) (judged.setStatus _ _)

theorem SameRing.startBeat (h : SameRing a d) (s i q : Nat) (b : Beat) (full : Bool) : SameRing a (startBeat s i q b full d) := by
  unfold Machine.startBeat
  split
  · exact .ite ((h.setStatus _ _).setContext _) ((h.setStatus _ _).handOver _ _ _ _)
  · exact (h.setStatus _ _).handOver _ _ _ _
  · exact (h.setStatus _ _).handOver _ _ _ _
  all_goals exact h

theorem SameRing.checkBeat (h : SameRing a d) (s i q : Nat) (b : Beat) (x : Enables) : SameRing a (checkBeat s i q b x d) := by
  unfold Machine.checkBeat
  split
  · exact .ite (.ite (.ite (h.setContext _) (.ite (h.setContext _) (h.endLine s b _))) (h.tearLine s _))
      ((h.tearLine s _).startBeat s i q b _)
  · exact h.startBeat s i q b _

theorem SameRing.missLines (h : SameRing a d) (s : Nat) (l : List Nat) : SameRing a (l.foldl (fun d i => missLine s i d) d) := by
  induction l generalizing d with
  | nil => exact h
  | cons i l ih => exact ih ((h.setStatus _ _).handOver _ _ _ _)

theorem SameRing.closeTable (h : SameRing a d) (s : Nat) : SameRing a (closeTable s d) := by
  unfold Machine.closeTable
  split
  · exact (h.tearLine s _).missLines s _
  · exact h.missLines s _

theorem SameRing.loseLock (h : SameRing a d) : SameRing a (loseLock d) :=
  h.trans ⟨by simp, by simp, rfl, fun _ => rfl, rfl, rfl, rfl, rfl, by simp⟩

theorem SameRing.markStale (h : SameRing a d) (t : Nat) : SameRing a (markStale t d) := by
  have marked := h.modifySlot t (fun e => { e with flags := { e.flags with stale := true } }) fun _ => rfl
  exact .ite h (marked.of_same (by simp))

end

/-! ### The close of a fill (R26) -/

section
variable {d : Device}

/-- The state of a slot after one has been changed. -/
theorem state_modifySlot (s i : Nat) (f : SlotEntry → SlotEntry) (d : Device) (hf : (f .empty).state = .empty) :
    (slotAt (modifySlot s f d) i).state = if i = s then (f (slotAt d s)).state else (slotAt d i).state := by
  by_cases hi : i = s
  · subst hi
    by_cases hs : i < d.ring.slots.length
    · rw [if_pos rfl, slotAt_modifySlot_self f d hs]
    · rw [if_pos rfl, slotAt_beyond d (by omega), slotAt_beyond _ (by simpa using hs), hf]
      rfl
  · rw [if_neg hi, slotAt_modifySlot_ne f d hi]

/-- What the close of slot s's fill does to the ring: s is FILLING no more and the fill is not open. -/
theorem closeFill_ring (s : Nat) (lost : Bool) (d : Device) :
    (∀ i, (slotAt (closeFill s lost d) i).state = if i = s then closedState (slotAt d s).state else (slotAt d i).state) ∧
      (closeFill s lost d).ring.slots.length = d.ring.slots.length ∧ (closeFill s lost d).ring.lock = d.ring.lock ∧
      (closeFill s lost d).ring.fillOpen = false ∧ (closeFill s lost d).ring.fillSlot = d.ring.fillSlot ∧
      (closeFill s lost d).ring.draining = d.ring.draining := by
  unfold closeFill
  extract_lets d1 d2 d3 d4
  have table : SameRing d d2 := by
    have closed : SameRing d d1 := (SameRing.refl d).closeTable s
    exact .ite (closed.modifySlot s _ fun _ => rfl) closed
  have ring4 : d4.ring = d3.ring := by simp [d4]
  refine ⟨fun i => ?_, ?_, ?_, ?_, ?_, ?_⟩
  · have view : slotAt (bump .framesFilled { d4 with ring := { d4.ring with fillOpen := false } }) i = slotAt d3 i := by
      simp [slotAt, ring4]
    rw [view, state_modifySlot s i _ d2 rfl, table.state, table.state]
  · show d4.ring.slots.length = _
    simpa [ring4, d3] using table.length
  · show d4.ring.lock = _
    simpa [ring4, d3] using table.lock
  · simp
  · show d4.ring.fillSlot = _
    simpa [ring4, d3] using table.fillSlot
  · show d4.ring.draining = _
    simpa [ring4, d3] using table.draining

theorem closedState_ne_filling (x : SlotState) : closedState x ≠ .filling := by cases x <;> simp [closedState]

theorem closedState_eq_draining (x : SlotState) : closedState x = .draining ↔ x = .draining := by cases x <;> simp [closedState]

/-- The close of the fill slot's fill keeps the bookkeeping. -/
theorem closeFill_ringWf (h : RingWf d) {s : Nat} (hs : d.ring.fillSlot = some s) (lost : Bool) : RingWf (closeFill s lost d) := by
  obtain ⟨state, length, lock, fillOpen, fillSlot, draining⟩ := closeFill_ring s lost d
  refine ⟨?_, ?_, ?_, fun _ => fillOpen, fun ho => by simp [fillOpen] at ho, fun i hi => ?_, fun i => ?_, ?_⟩
  · rw [closeFill_control, length]; exact h.entries
  · rw [closeFill_control, forall_slots_empty_iff, lock, fillOpen, draining]
    intro hr
    obtain ⟨empty, h2, -, h4⟩ := h.idle hr
    have empty := (forall_slots_empty_iff d).1 empty
    exact ⟨fun i => by rw [state, empty, empty]; split <;> rfl, h2, rfl, h4⟩
  · rw [closeFill_control, lock]; exact h.locked
  · rw [state] at hi
    split at hi
    · exact absurd hi (closedState_ne_filling _)
    · next ne =>
      have := (h.filling i hi).1
      rw [hs] at this
      exact absurd (Option.some.inj this).symm ne
  · rw [state, draining, ← h.draining i]
    split
    · next eq => rw [closedState_eq_draining, eq]
    · exact Iff.rfl
  · rw [closeFill_delivery, draining]; exact h.record

/-- After the close of an open fill none is open, and the bookkeeping is kept. -/
theorem closeOpenFill_ringWf (h : RingWf d) (lost : Bool) :
    RingWf (closeOpenFill lost d) ∧ (closeOpenFill lost d).ring.fillOpen = false ∧
      (closeOpenFill lost d).ring.lock = d.ring.lock ∧ (closeOpenFill lost d).ring.slots.length = d.ring.slots.length := by
  unfold closeOpenFill
  split
  · next s hs =>
    split
    · obtain ⟨-, length, lock, fillOpen, -⟩ := closeFill_ring s lost d
      exact ⟨closeFill_ringWf h hs lost, fillOpen, lock, length⟩
    · next shut => exact ⟨h, by simpa using shut, rfl, rfl⟩
  · next hs =>
    refine ⟨h, ?_, rfl, rfl⟩
    by_contra hopen
    exact h.filled (by simpa using hopen) hs

/-! ### The begin of a slot (R23, R27, R28) -/

/-- What the disposal of slot s's frame does to the ring and the record. -/
theorem disposeFrame_ring (s : Nat) (d : Device) :
    (disposeFrame s d).ring = (if (slotAt d s).state = .draining then { d.ring with draining := none } else d.ring) ∧
      (disposeFrame s d).delivery.record = if (slotAt d s).state = .draining then none else d.delivery.record := by
  unfold disposeFrame
  cases hs : (slotAt d s).state with
  | draining =>
    simp only [hs, if_true]
    refine ⟨?_, ?_⟩
    · simp only [noDraining, raise_ring, handOverDraining_ring]
    · simp only [noDraining_delivery, raise_delivery, handOverDraining]
      split
      · assumption
      · rfl
  | _ => simp [hs]

/-- What the filling of slot s does to the ring. -/
theorem fillWith_ring {s : Nat} (hs : s < d.ring.slots.length) (w : Bool) :
    (∀ i, (slotAt (fillWith s w d) i).state = if i = s then .filling else (slotAt d i).state) ∧
      (fillWith s w d).ring.slots.length = d.ring.slots.length ∧ (fillWith s w d).ring.lock = d.ring.lock := by
  let entry : SlotEntry :=
    { state := .filling, frame := d.ring.nextFrame, flags := { SlotFlags.clear with overwritten := w }, uncheckedFrom := 0 }
  have view : ∀ i, slotAt (fillWith s w d) i = slotAt (modifySlot s (fun _ => entry) d) i := fun _ => rfl
  refine ⟨fun i => ?_, by simp [fillWith], by simp [fillWith]⟩
  rw [view]
  split
  · next same =>
    rw [same, slotAt_modifySlot_self _ d hs]
  · next other => rw [slotAt_modifySlot_ne _ d other]

/-- What the begin of slot s does to the ring and the record. -/
theorem beginSlot_ring {s : Nat} (hs : s < d.ring.slots.length) :
    (∀ i, (slotAt (beginSlot s d) i).state = if i = s then .filling else (slotAt d i).state) ∧
      (beginSlot s d).ring.slots.length = d.ring.slots.length ∧ (beginSlot s d).ring.lock = d.ring.lock ∧
      (beginSlot s d).ring.fillOpen = true ∧ (beginSlot s d).ring.fillSlot = some s ∧
      (beginSlot s d).ring.draining = (if (slotAt d s).state = .draining then none else d.ring.draining) ∧
      (beginSlot s d).delivery.record = if (slotAt d s).state = .draining then none else d.delivery.record := by
  obtain ⟨ring, record⟩ := disposeFrame_ring s d
  have slots : (disposeFrame s d).ring.slots = d.ring.slots := by rw [ring]; split <;> rfl
  have kept : (disposeFrame s d).ring.lock = d.ring.lock := by rw [ring]; split <;> rfl
  have freed : (freeSpans s (disposeFrame s d)).ring = (disposeFrame s d).ring := by simp
  obtain ⟨state, length, lock⟩ := fillWith_ring (d := freeSpans s (disposeFrame s d)) (s := s)
    (by rw [freed, slots]; exact hs) (overwrites (slotAt d s).state)
  have view : ∀ i, (slotAt (freeSpans s (disposeFrame s d)) i) = slotAt d i := fun i => by simp [slotAt, slots]
  unfold beginSlot
  refine ⟨fun i => ?_, ?_, ?_, by simp, by simp, ?_, ?_⟩
  · have := state i
    rw [view] at this
    exact this
  · simp only [startTable_ring]; rw [length, freed, slots]
  · simp only [startTable_ring]; rw [lock, freed, kept]
  · simp only [startTable_ring, fillWith_draining, freed, ring]
    split <;> rfl
  · simp [record]

/-- The begin of slot s in a run, with no fill open but one of s, keeps the bookkeeping under a lock (R25). -/
theorem beginSlot_ringWf (h : RingWf d) {s : Nat} (running : d.control.run = .running) (hs : s < d.ring.slots.length)
    (only : d.ring.fillOpen = false ∨ d.ring.fillSlot = some s) : RingWf (setLock .locked (beginSlot s d)) := by
  obtain ⟨state, length, -, fillOpen, fillSlot, draining, record⟩ := beginSlot_ring hs
  have state' : ∀ i, (slotAt (setLock .locked (beginSlot s d)) i).state = if i = s then .filling else (slotAt d i).state := state
  refine ⟨?_, fun hr => absurd ?_ hr, fun _ => by simp [setLock], fun hl => by simp [setLock] at hl, fun _ => ?_, fun i hi => ?_,
    fun i => ?_, ?_⟩
  · simpa [length] using h.entries
  · simpa using running
  · simp [fillSlot]
  · simp only [setLock_fillSlot, setLock_fillOpen]
    rw [state'] at hi
    split at hi
    · next eq => exact ⟨by rw [fillSlot, eq], fillOpen⟩
    · next ne =>
      obtain ⟨h1, h2⟩ := h.filling i hi
      rcases only with shut | same
      · simp [shut] at h2
      · rw [same] at h1
        exact absurd (Option.some.inj h1).symm ne
  · rw [state', setLock_draining, draining]
    have hi := h.draining i
    have hd := h.draining s
    split
    · next eq =>
      subst eq
      split
      · simp
      · next ne => simpa using fun e => ne (hd.2 e)
    · next ne =>
      split
      · next drains =>
        rw [hi, hd.1 drains]
        simpa using fun e => ne e.symm
      · exact hi
  · have hr := h.record
    simp only [setLock_delivery, setLock_draining, record, draining]
    split
    · rfl
    · exact hr

theorem setLock_same (h : d.ring.lock = some .locked) : setLock .locked d = d := by
  simp [setLock, ← h]

/-- A write's begin of a slot in a run keeps the bookkeeping (R25, R29, R30, R34). -/
theorem beginWrite_ringWf (h : RingWf d) {s : Nat} (running : d.control.run = .running) (hs : s < d.ring.slots.length) :
    RingWf (beginWrite s d) := by
  have locked : d.ring.lock ≠ some .seeking → d.ring.lock = some .locked := fun hn => by
    cases hl : d.ring.lock with
    | none => exact absurd hl (h.locked running)
    | some l =>
      cases l with
      | locked => rfl
      | seeking => exact absurd hl hn
  unfold beginWrite
  split
  · next seeking => exact beginSlot_ringWf h running hs (.inl (h.seeking seeking))
  · next notSeeking =>
    split
    · obtain ⟨wf, shut, lock, length⟩ := closeOpenFill_ringWf h false
      have begun := beginSlot_ringWf wf (s := s) (by simpa using running) (by rw [length]; exact hs) (.inl shut)
      have kept : (beginSlot s (closeOpenFill false d)).ring.lock = some .locked := by
        rw [(beginSlot_ring (by rw [length]; exact hs)).2.2.1, lock, locked notSeeking]
      rwa [setLock_same kept] at begun
    · unfold jumpTo
      extract_lets d1
      have lost : SameRing d d1 := (SameRing.refl d).loseLock
      have wf1 := h.same lost
      have running1 : d1.control.run = .running := lost.run.trans running
      have locked1 : d1.ring.lock = some .locked := lost.lock.trans (locked notSeeking)
      have hs1 : s < d1.ring.slots.length := by rw [lost.length]; exact hs
      split
      · next same =>
        have begun := beginSlot_ringWf wf1 running1 hs1 (.inr same)
        rwa [setLock_same ((beginSlot_ring hs1).2.2.1.trans locked1)] at begun
      · obtain ⟨wf, shut, lock, length⟩ := closeOpenFill_ringWf wf1 true
        have hs2 : s < (closeOpenFill true d1).ring.slots.length := by rw [length]; exact hs1
        have begun := beginSlot_ringWf wf (s := s) (by simpa using running1) hs2 (.inl shut)
        rwa [setLock_same ((beginSlot_ring hs2).2.2.1.trans (lock.trans locked1))] at begun

/-- The run's first write makes the bookkeeping of a run (R23). -/
theorem startRun_ringWf (h : RingWf d) {s : Nat} (armed : d.control.run = .armed) (hs : s < d.ring.slots.length) :
    RingWf (startRun s d) := by
  obtain ⟨empty, -, -, draining⟩ := h.idle (by simp [armed])
  have empty := (forall_slots_empty_iff d).1 empty
  unfold startRun
  extract_lets _ _ d1
  have freed : (freeSpans s d1).ring = d1.ring := by simp
  obtain ⟨state, length, -⟩ := fillWith_ring (d := freeSpans s d1) (s := s) (by rw [freed]; exact hs) false
  have view : ∀ i, slotAt (freeSpans s d1) i = slotAt d i := fun i => by rw [slotAt, freed]; rfl
  have state' : ∀ i, (slotAt (setLock .locked (startTable (fillWith s false (freeSpans s d1)))) i).state =
      if i = s then .filling else .empty := fun i => by
    have := state i
    rw [view, empty] at this
    exact this
  refine ⟨fun _ => ?_, fun hr => absurd ?_ hr, fun _ => by simp [setLock], fun hl => by simp [setLock] at hl, fun _ => by simp,
    fun i hi => ?_, fun i => ?_, ?_⟩
  · simp only [setLock_slots, startTable_ring, setLock_control, startTable_control, fillWith_control, freeSpans_control]
    rw [length, freed]
    exact h.entries (by simp [armed])
  · simp [d1]
  · rw [state'] at hi
    split at hi
    · next eq => simp [eq]
    · cases hi
  · rw [state']
    simp only [setLock_draining, startTable_ring, fillWith_draining, freed, d1]
    split <;> simp
  · have hr := h.record
    rw [draining] at hr
    simpa [d1] using hr

end

/-! ### Write beats -/

section
variable {d : Device}

theorem nameAddress_line_lt {g : Geometry} {x s i q : Nat} (h : nameAddress g x = .line s i q) : s < g.slots := by
  unfold nameAddress at h
  split at h
  · next inside =>
    extract_lets s' o at h
    split at h
    · split at h
      · obtain ⟨rfl, -, -⟩ := BeatName.line.inj h
        have pos : 0 < g.slotPitch := by
          by_contra hp
          have : g.slotPitch = 0 := by omega
          simp [this] at inside
          omega
        rw [Nat.div_lt_iff_lt_mul pos]
        omega
      · cases h
    · cases h
  · cases h

/-- A lock loss leaves no fill open (R32). -/
theorem lockLoss_ringWf (h : RingWf d) (running : d.control.run = .running) (t : Nat) : RingWf (lockLoss t d) := by
  obtain ⟨wf, shut, -⟩ := closeOpenFill_ringWf h true
  have marked := (SameRing.refl (closeOpenFill true d)).markStale t
  have wf1 := wf.same marked
  have shut1 : (markStale t (closeOpenFill true d)).ring.fillOpen = false := marked.fillOpen.trans shut
  refine RingWf.same ?_ ((SameRing.refl (setLock .seeking (markStale t (closeOpenFill true d)))).loseLock)
  refine ⟨wf1.entries, fun hr => absurd ?_ hr, fun _ => by simp [setLock], fun _ => shut1, wf1.filled, wf1.filling, wf1.draining, wf1.record⟩
  rw [setLock_control, marked.run, closeOpenFill_control, running]

theorem runningBeat_ringWf (h : RingWf d) (running : d.control.run = .running) (first : Bool) {s : Nat} (i q : Nat) (b : Beat)
    (e : Enables) (hs : s < d.ring.slots.length) : RingWf (runningBeat first s i q b e d) := by
  unfold runningBeat
  split_ifs with begins inFill locked
  · exact (beginWrite_ringWf h running hs).same ((SameRing.refl _).checkBeat s i q b e)
  · unfold fillBeat
    extract_lets g d1
    have checked : SameRing d d1 := (SameRing.refl d).checkBeat s i q b e
    split
    · exact closeFill_ringWf (h.same checked) (checked.fillSlot.trans inFill.1) false
    · exact h.same checked
  · exact lockLoss_ringWf h running s
  · exact h.same ((SameRing.refl d).markStale s)

theorem takeWriteBeat_ringWf (h : RingWf d) (first outside : Bool) (x : Nat) (b : Beat) (e : Enables) :
    RingWf (takeWriteBeat first outside x b e d) := by
  unfold takeWriteBeat
  split
  · exact h
  · exact h
  · next s i q name =>
    have hs := nameAddress_line_lt name
    split
    · exact h
    · next armed =>
      rw [← h.entries (by simp [armed])] at hs
      split
      · exact (startRun_ringWf h armed hs).same (((SameRing.refl _).checkBeat s i q b e).wakeEngine)
      · exact h
    · next running =>
      rw [← h.entries (by simp [running])] at hs
      exact (runningBeat_ringWf h running first i q b e hs).same ((SameRing.refl _).wakeEngine)

end

end Sys2Proof.Machine
end

section
/-! PROOFS. The ring tracker's bookkeeping through reads, grants and the other commands (R35 to R38, R124). -/

namespace Sys2Proof.Machine

/-! ### Grants, for any invariant of the blocks behind the port -/

/-- A forming keeps what its two steps keep. -/
theorem formPart_keeps {inv : Device → Prop} (ask : ∀ a d, inv d → inv (askBeat a d).device)
    (take : ∀ a d, inv d → inv (takeIn (askBeat a d))) {d : Device} (h : inv d) (n a : Nat) (f : Option Nat) :
    inv (formPart n a f d).device := by
  induction n generalizing a f d with
  | zero => exact h
  | succ n ih =>
    unfold formPart
    extract_lets k
    split
    · exact ask a d h
    · split
      · exact ih (take a d h) _ _
      · exact ask a d h

/-- Parts d and e differ at most in port, arbiter and engine. -/
structure SameBehindPort (d e : Device) : Prop where
  control : e.control = d.control
  ring : e.ring = d.ring
  checker : e.checker = d.checker
  delivery : e.delivery = d.delivery

/-- A grant keeps an invariant of the blocks behind the port if each step of a forming keeps it. -/
theorem arbitrate_keeps {inv : Device → Prop} (side : ∀ d e, SameBehindPort d e → inv d → inv e)
    (ask : ∀ a d, inv d → inv (askBeat a d).device) (take : ∀ a d, inv d → inv (takeIn (askBeat a d))) {d : Device} (h : inv d) :
    inv (arbitrate d) := by
  have engine : ∀ {d}, inv d → inv (grantEngineIfFree d) := fun {d} h => by
    unfold grantEngineIfFree
    split
    · exact side d _ ⟨by simp, by simp, by simp, by simp⟩ h
    · exact h
  have burner : ∀ {d}, inv d → inv (grantBurnerIfFree d) := fun {d} h => by
    unfold grantBurnerIfFree grantBurner
    split
    · extract_lets _ d1
      have h1 : inv d1 := side d d1 ⟨rfl, rfl, rfl, rfl⟩ h
      split
      · exact h1
      · split
        · exact side d1 _ ⟨rfl, rfl, rfl, rfl⟩ h1
        · unfold forwardPart
          extract_lets f
          have formed : inv f.device := formPart_keeps ask take h1 _ _ _
          split
          · exact side f.device _ ⟨rfl, rfl, rfl, rfl⟩ formed
          · exact side f.device _ ⟨rfl, rfl, rfl, rfl⟩ formed
    · exact h
  unfold arbitrate
  split
  · exact h
  · split
    · exact burner (engine (side d _ ⟨rfl, rfl, rfl, rfl⟩ h))
    · exact engine (burner h)

/-! ### Drains -/

section
variable {d : Device}

theorem applyPending_run (d : Device) : (applyPending d).control.run = d.control.run := by
  unfold applyPending
  split <;> rfl

theorem SameRing.applyPending {a : Device} (h : SameRing a d) : SameRing a (applyPending d) :=
  h.trans ⟨applyPending_run d, applyPending_geometry d, by simp, fun s => by unfold slotAt; simp, by simp, by simp, by simp, by simp,
    by simp⟩

theorem handOverClosing_record (d : Device) : (handOverClosing d).delivery.record = d.delivery.record := by
  unfold handOverClosing
  split
  · rfl
  · show (handOverRecord _ d).delivery.record = _
    simp [handOverRecord]

/-- After the drain's end its record is not the DRAINING slot's any more (R37). -/
theorem closeRecord_record (d : Device) : (closeRecord d).delivery.record = none := by
  unfold closeRecord
  split
  · assumption
  · extract_lets d1 d2
    split
    · rw [handOverClosing_record]
    · rfl

/-- What a drain end does to the ring and the record. -/
theorem endDrain_ring (h : RingWf d) :
    (∀ i, (slotAt (endDrain d) i).state = if d.ring.draining = some i then .drained else (slotAt d i).state) ∧
      (endDrain d).ring.slots.length = d.ring.slots.length ∧ (endDrain d).ring.lock = d.ring.lock ∧
      (endDrain d).ring.fillOpen = d.ring.fillOpen ∧ (endDrain d).ring.fillSlot = d.ring.fillSlot ∧
      (endDrain d).ring.draining = none ∧ (endDrain d).delivery.record = none := by
  unfold endDrain
  split
  · next none =>
    have hr := h.record
    rw [none, Option.map_eq_none_iff] at hr
    simp [none, hr]
  · next s hs =>
    have drains : (slotAt d s).state = .draining := (h.draining s).2 hs
    have inside : s < d.ring.slots.length := by
      by_contra out
      rw [slotAt_beyond d (by omega)] at drains
      cases drains
    have view : ∀ i, slotAt (closeRecord (noDraining (modifySlot s (fun e => { e with state := .drained }) d))) i =
        slotAt (modifySlot s (fun e => { e with state := .drained }) d) i := fun i => by simp [slotAt]
    refine ⟨fun i => ?_, by simp, by simp, by simp, by simp, by simp, closeRecord_record _⟩
    rw [view]
    by_cases hi : i = s
    · subst hi
      rw [slotAt_modifySlot_self _ d inside, if_pos hs]
    · rw [slotAt_modifySlot_ne _ d hi, if_neg (by rw [hs]; simpa using fun e => hi e.symm)]

/-- A drain end keeps the bookkeeping, and no slot is DRAINING after it (R37). -/
theorem endDrain_ringWf (h : RingWf d) : RingWf (endDrain d) := by
  obtain ⟨state, length, lock, fillOpen, fillSlot, draining, record⟩ := endDrain_ring h
  refine ⟨?_, ?_, ?_, ?_, ?_, fun i hi => ?_, fun i => ?_, by rw [record, draining]; rfl⟩
  · rw [endDrain_control, length]; exact h.entries
  · rw [endDrain_control, forall_slots_empty_iff, lock, fillOpen, draining]
    intro hr
    obtain ⟨empty, h2, h3, h4⟩ := h.idle hr
    exact ⟨fun i => by rw [state, h4, if_neg (by simp), (forall_slots_empty_iff d).1 empty], h2, h3, rfl⟩
  · rw [endDrain_control, lock]; exact h.locked
  · rw [lock, fillOpen]; exact h.seeking
  · rw [fillOpen, fillSlot]; exact h.filled
  · rw [state] at hi
    rw [fillOpen, fillSlot]
    split at hi
    · cases hi
    · exact h.filling i hi
  · rw [state, draining]
    split
    · simp
    · next other => simpa [h.draining i] using other

/-- The begin of a drain on slot s, with no slot DRAINING, keeps the bookkeeping (R35, R36). -/
theorem drainStarted_ringWf (h : RingWf d) (none : d.ring.draining = none) {s : Nat}
    (waits : (slotAt d s).state = .filled ∨ (slotAt d s).state = .filling) : RingWf (openRecord s (makeDraining s d)) := by
  have inside : s < d.ring.slots.length := by
    by_contra out
    rw [slotAt_beyond d (by omega)] at waits
    rcases waits with w | w <;> cases w
  have running : d.control.run = .running := by
    by_contra hr
    have empty := (forall_slots_empty_iff d).1 (h.idle hr).1 s
    rcases waits with w | w <;> (rw [empty] at w; cases w)
  have state : ∀ i, (slotAt (openRecord s (makeDraining s d)) i).state = if i = s then .draining else (slotAt d i).state := fun i => by
    show (slotAt (modifySlot s (fun e => { e with state := .draining }) d) i).state = _
    by_cases hi : i = s
    · subst hi
      rw [slotAt_modifySlot_self _ d inside, if_pos rfl]
    · rw [slotAt_modifySlot_ne _ d hi, if_neg hi]
  refine ⟨?_, fun hr => absurd running hr, h.locked, h.seeking, h.filled, fun i hi => ?_, fun i => ?_, rfl⟩
  · intro off
    have entries := h.entries off
    rw [← show (openRecord s (makeDraining s d)).ring.slots.length = d.ring.slots.length by simp [makeDraining]] at entries
    exact entries
  · rw [state] at hi
    split at hi
    · cases hi
    · exact h.filling i hi
  · rw [state]
    simp only [openRecord_ring, makeDraining_draining, Option.some.injEq]
    split
    · next same => simp [same]
    · next other => simpa [h.draining i, none] using fun e => other e.symm

/-- A read at the base of a slot keeps the bookkeeping (R35, R36, R38). -/
theorem baseRead_ringWf (h : RingWf d) (s : Nat) : RingWf (baseRead s d) := by
  have applied : SameRing (endDrain d) (applyPending (endDrain d)) := (SameRing.refl _).applyPending
  have wf := (endDrain_ringWf h).same applied
  have none : (applyPending (endDrain d)).ring.draining = none := applied.draining.trans (endDrain_ring h).2.2.2.2.2.1
  have kept : (slotAt d s).state ≠ .draining → (slotAt (applyPending (endDrain d)) s).state = (slotAt d s).state := fun ne => by
    rw [applied.state, (endDrain_ring h).1, if_neg (fun e => ne ((h.draining s).2 e))]
  unfold baseRead
  split
  · next filled => exact drainStarted_ringWf wf none (.inl ((kept (by simp [filled])).trans filled))
  · next filling =>
    have started := drainStarted_ringWf wf none (.inr ((kept (by simp [filling])).trans filling))
    have marked := (SameRing.refl (makeDraining s (applyPending (endDrain d)))).modifySlot s
      (fun e => { e with flags := { e.flags with overtake := true }, uncheckedFrom := uncheckedLine (applyPending (endDrain d)) })
      fun _ => rfl
    exact started.same ⟨marked.run, marked.geometry, marked.length, marked.state, marked.lock, marked.fillOpen, marked.fillSlot,
      marked.draining, rfl⟩
  all_goals exact h

theorem askBeat_ringWf (a : Nat) (d : Device) (h : RingWf d) : RingWf (askBeat a d).device := by
  unfold askBeat
  extract_lets g
  split
  · exact h
  · exact h
  · next s i q _ =>
    extract_lets d1
    have begun : RingWf d1 := by
      simp only [d1]
      split
      · exact baseRead_ringWf h s
      · exact h
    split
    · split
      · exact begun.same ((SameRing.refl d1).askSample i q)
      · exact begun
    · exact begun

theorem takeIn_ringWf (k : Asked) (h : RingWf k.device) : RingWf (takeIn k) := by
  have counted : RingWf (if k.tag.isSome then onRecord (fun r => { r with inFlight := r.inFlight + 1 }) k.device else k.device) :=
    h.same (.ite ((SameRing.refl _).onRecord _ fun _ => rfl) (.refl _))
  unfold takeIn
  extract_lets d1
  split
  · exact endDrain_ringWf counted
  · exact counted

theorem arbitrate_ringWf (h : RingWf d) : RingWf (arbitrate d) :=
  arbitrate_keeps (fun d _ s h => h.same ((SameRing.refl d).of_same ⟨s.control, s.ring, s.delivery⟩)) askBeat_ringWf
    (fun a d h => takeIn_ringWf _ (askBeat_ringWf a d h)) h

end

/-! ### The commands -/

/-- The starting values of ring and delivery keep the bookkeeping in OFF and, with a table of the geometry's slots, in ARMED. -/
theorem ringWf_start {d : Device} (n : Nat) (ring : d.ring = Ring.start n) (record : d.delivery.record = none)
    (run : d.control.run = .off ∨ d.control.run = .armed ∧ n = d.control.geometry.slots) : RingWf d := by
  have empty : ∀ s, (slotAt d s).state = .empty := (forall_slots_empty_iff d).1 fun e he => by
    simp only [ring, Ring.start] at he
    rw [List.eq_of_mem_replicate he]
    rfl
  refine ⟨fun hr => ?_, fun _ => ⟨(forall_slots_empty_iff d).2 empty, by simp [ring, Ring.start]⟩, fun hr => ?_, ?_, ?_, fun s hs => ?_,
    fun s => ?_, ?_⟩
  · rcases run with off | ⟨-, hn⟩
    · exact absurd off hr
    · simp [ring, Ring.start, hn]
  · rcases run with off | ⟨armed, -⟩ <;> simp_all
  · simp [ring, Ring.start]
  · simp [ring, Ring.start]
  · simp [empty] at hs
  · simp [empty, ring, Ring.start]
  · simp [record, ring, Ring.start]

theorem ringWf_keptByBlocks : KeptByBlocks RingWf where
  same := fun d e s h => h.same
    { run := s.run, geometry := s.geometry, length := by rw [s.ring], state := fun i => by unfold slotAt; rw [s.ring],
      lock := by rw [s.ring], fillOpen := by rw [s.ring], fillSlot := by rw [s.ring], draining := by rw [s.ring],
      record := by rw [s.delivery] }
  tick := fun d h _ => arbitrate_ringWf (h.same (SameRing.refl d).tickHold)
  start := fun w x n d h _ => arbitrate_ringWf (h.same ((SameRing.refl d).of_same ⟨rfl, rfl, rfl⟩))
  accept := fun b e d h _ => by
    unfold acceptWrite
    split
    · exact h
    · next t _ =>
      have accepted : SameRing d (acceptBeat t b e d) := (SameRing.refl d).of_same ⟨rfl, rfl, rfl⟩
      exact takeWriteBeat_ringWf (h.same accepted) _ _ _ b e
  back := fun b d h _ => by
    unfold returnBeat
    split
    · exact h
    · exact h.same (((SameRing.refl d).passThrough _ b).of_same ⟨rfl, rfl, rfl⟩)
  complete := fun m l d h _ _ => by
    have freed : SameRing d (setBus none d) := (SameRing.refl d).of_same ⟨rfl, rfl, rfl⟩
    exact arbitrate_ringWf (h.same (.ite (.ite freed (freed.engineCompletion m l)) (freed.of_same ⟨rfl, rfl, rfl⟩)))
  expire := fun d h _ => arbitrate_ringWf (h.same (SameRing.refl d).expireHold)
  reset := fun d _ => arbitrate_ringWf (ringWf_start 0 rfl rfl (.inl rfl))
  arm := fun d h off => ringWf_start _ rfl
    (by
      have hr := h.record
      rw [(h.idle (by simp [off])).2.2.2, Option.map_eq_none_iff] at hr
      exact hr)
    (.inr ⟨rfl, rfl⟩)
  endRun := fun d h _ => by
    unfold endRunPart
    extract_lets ended d1 d2 d3 d4
    have ring : d4.ring = d3.ring := by unfold d4 endQuery; split <;> simp
    have delivery : d4.delivery = d3.delivery := by unfold d4 endQuery; split <;> simp
    exact arbitrate_ringWf (ringWf_start _ ring (by show d4.delivery.record = _; rw [delivery]; rfl) (.inl rfl))

end Sys2Proof.Machine

namespace Sys2Proof.Bus

open Sys2Proof.Machine

/-- Settles O8: slots are begun, closed, drained and cleared together with the fields that name them, and everything else leaves
them alone. -/
theorem ringBookkeepingIsKept : Obligations.RingBookkeepingIsKept := ringWf_keptByBlocks.keptByStep

end Sys2Proof.Bus
end

section
/-! PROOFS. The hold's bookkeeping (R10, R124, R125, R131 to R135): the records and entries of the delivery unit, the burner transfer in
the port, and the hold between them. -/

namespace Sys2Proof.Machine

/-! ### The two sides of the bookkeeping -/

/-- Records and entries of the delivery unit: allowances are kept, a record belongs to a run and has one entry a line, and a HELD
entry is the held line's (R124, R125, R135). -/
structure DeliveryWf (d : Device) : Prop where
  record : ∀ r, d.delivery.record = some r →
    AllowanceKept r ∧ d.control.run = .running ∧ r.lines.length = d.control.geometry.lines
  closing : ∀ r, d.delivery.closing = some r → AllowanceKept r
  entry : ∀ r i, d.delivery.record = some r → entryOf r i = .held → ∃ h, d.delivery.held = some h ∧ h.line = i

/-- The burner transfer in the port (R1, R4, R6, R23). -/
structure PortWf (d : Device) : Prop where
  formed : ∀ t, d.port.transfer = some t → t.write = false → t.unchanged = false → d.control.run = .running
  inRing : ∀ t, d.port.transfer = some t → d.control.run = .running → t.outside = false
  remains : ∀ t, d.port.transfer = some t → t.mode ≠ .forwarding → t.next < t.beats

/-- A hold waits that the record can pay (R128 row 4, R131). -/
def HoldOpen (d : Device) : Prop :=
  ∃ h r, d.delivery.held = some h ∧ d.delivery.record = some r ∧ h.ticks < r.holdBudget ∧ r.holdBudget ≤ r.allowanceLeft

section
variable {d e : Device}

theorem HoldWf.delivery (h : HoldWf d) : DeliveryWf d := ⟨h.record, h.closing, h.entry⟩

theorem HoldWf.port (h : HoldWf d) : PortWf d := ⟨h.formed, h.inRing, h.remains⟩

/-- Without a hold the port must not wait for one. -/
theorem holdWf_of_released (side : DeliveryWf d) (port : PortWf d) (free : d.delivery.held = none)
    (goes : ∀ t, d.port.transfer = some t → ¬ awaitsRelease t) : HoldWf d :=
  ⟨side.record, side.closing, port.formed, port.inRing, port.remains, side.entry, fun h hh => by simp [free] at hh, fun _ => goes⟩

/-- With a hold open the port holds the burner read that waits for it. -/
theorem holdWf_of_held (side : DeliveryWf d) (port : PortWf d) (opened : HoldOpen d) {t : BurnerTransfer}
    (ht : d.port.transfer = some t) (read : t.write = false) (rest : t.next + t.inPart.length < t.beats) (waits : awaitsRelease t) :
    HoldWf d := by
  obtain ⟨h, r, hh, hr, ticks, budget⟩ := opened
  refine ⟨side.record, side.closing, port.formed, port.inRing, port.remains, side.entry, fun h' hh' => ?_, fun none => ?_⟩
  · obtain rfl : h = h' := by simpa [hh] using hh'
    exact ⟨r, t, hr, ht, ticks, budget, read, rest, waits⟩
  · simp [hh] at none

/-- A transfer that does not wait for a release leaves no hold open. -/
theorem HoldWf.held_none (h : HoldWf d) (goes : ∀ t, d.port.transfer = some t → ¬ awaitsRelease t) : d.delivery.held = none := by
  cases hh : d.delivery.held with
  | none => rfl
  | some x =>
    obtain ⟨_, t, -, ht, -, -, -, -, waits⟩ := h.held x hh
    exact absurd waits (goes t ht)

theorem DeliveryWf.congr (h : DeliveryWf d) (run : e.control.run = d.control.run)
    (lines : e.control.geometry = d.control.geometry) (delivery : e.delivery = d.delivery) : DeliveryWf e :=
  ⟨by rw [run, lines, delivery]; exact h.record, by rw [delivery]; exact h.closing, by rw [delivery]; exact h.entry⟩

theorem PortWf.congr (h : PortWf d) (run : e.control.run = d.control.run) (port : e.port.transfer = d.port.transfer) : PortWf e :=
  ⟨by rw [run, port]; exact h.formed, by rw [run, port]; exact h.inRing, by rw [port]; exact h.remains⟩

theorem HoldWf.congr (h : HoldWf d) (run : e.control.run = d.control.run) (lines : e.control.geometry = d.control.geometry)
    (port : e.port.transfer = d.port.transfer) (delivery : e.delivery = d.delivery) : HoldWf e := by
  have side := h.delivery.congr run lines delivery
  have rest := h.port.congr run port
  exact ⟨side.record, side.closing, rest.formed, rest.inRing, rest.remains, side.entry, by rw [delivery, port]; exact h.held,
    by rw [delivery, port]; exact h.released⟩

/-! ### Entries of a record -/

/-- Fixing a line's entry as one that is not HELD leaves no HELD entry there and makes none elsewhere. -/
theorem entryOf_fixEntry_held {i k : Nat} {x : LineEntry} {r : DrainRecord} (hx : x ≠ .held)
    (h : entryOf (fixEntry d i x r) k = .held) : k ≠ i ∧ entryOf r k = .held := by
  simp only [entryOf, fixEntry, List.getD_eq_getElem?_getD, mapFrom_getElem?, Nat.zero_add] at h ⊢
  cases hk : r.lines[k]? with
  | none => simp [hk] at h
  | some y =>
    simp only [hk, Option.map_some, Option.getD_some] at h ⊢
    split_ifs at h with same passed
    · exact absurd h hx
    · unfold passedOver at h
      split at h <;> cases h
    · exact ⟨same, h⟩

/-- The entries once line i's is HELD. -/
theorem entryOf_modifyAt (i k : Nat) (x : LineEntry) (r : DrainRecord) :
    entryOf { r with lines := modifyAt (fun _ => x) i r.lines } k =
      if k = i ∧ i < r.lines.length then x else entryOf r k := by
  simp only [entryOf, List.getD_eq_getElem?_getD]
  split_ifs with here
  · obtain ⟨rfl, inside⟩ := here
    rw [modifyAt_getElem?_self, List.getElem?_eq_getElem inside]
    rfl
  · by_cases same : k = i
    · subst same
      rw [modifyAt_beyond _ (by simpa using here)]
    · rw [modifyAt_getElem?_ne _ same]

/-! ### Charging and settling -/

theorem chargeHold_delivery {r : DrainRecord} (hr : d.delivery.record = some r) (c : Nat) :
    (chargeHold c d).delivery = { d.delivery with record := some (chargeRecord c r) } := by
  unfold chargeHold
  split
  · simp_all
  · next r' hr' =>
    obtain rfl : r = r' := by simpa [hr] using hr'
    have charged : (onRecord (chargeRecord c) d).delivery = { d.delivery with record := some (chargeRecord c r) } := by
      simp only [onRecord, hr, Option.map_some]
    split
    · rw [raise_delivery, charged]
    · exact charged

theorem settleLine_delivery (s i : Nat) (x : LineEntry) (d : Device) :
    (settleLine s i x d).delivery = { d.delivery with record := d.delivery.record.map (fixEntry d i x) } := by
  simp [settleLine, onRecord]

/-- A hold ends: its ticks or its budget are charged, its line is settled, and the port goes on (R133, R134). -/
theorem HoldWf.release (h : HoldWf d) {x : HeldRead} {r : DrainRecord} (hx : d.delivery.held = some x)
    (hr : d.delivery.record = some r) {c : Nat} (hc : c ≤ r.allowanceLeft) (s : Nat) {y : LineEntry} (hy : y ≠ .held)
    (counted : Device → Device) (control : ∀ d, (counted d).control = d.control) (port : ∀ d, (counted d).port = d.port)
    (delivery : ∀ d, (counted d).delivery = d.delivery) :
    HoldWf (releasePort (dropHold (settleLine s x.line y (counted (chargeHold c d))))) := by
  obtain ⟨kept, running, length⟩ := h.record r hr
  have hd : (releasePort (dropHold (settleLine s x.line y (counted (chargeHold c d))))).delivery =
      { d.delivery with record := some (fixEntry (counted (chargeHold c d)) x.line y (chargeRecord c r)), held := none } := by
    simp [dropHold, settleLine_delivery, delivery, chargeHold_delivery hr]
  have hp : (releasePort (dropHold (settleLine s x.line y (counted (chargeHold c d))))).port.transfer =
      d.port.transfer.map releaseTransfer := by simp [releasePort, port]
  have hcontrol : (releasePort (dropHold (settleLine s x.line y (counted (chargeHold c d))))).control = d.control := by simp [control]
  refine holdWf_of_released ⟨fun r' hr' => ?_, ?_, fun r' i hr' hi => ?_⟩ ⟨fun t ht => ?_, fun t ht => ?_, fun t ht => ?_⟩ ?_ fun t ht => ?_
  · rw [hd] at hr'
    obtain rfl := Option.some.inj hr'
    refine ⟨?_, by rw [hcontrol]; exact running, by rw [hcontrol]; simpa [fixEntry, chargeRecord] using length⟩
    simp only [AllowanceKept, fixEntry, chargeRecord] at kept ⊢
    omega
  · rw [hd]; exact h.closing
  · rw [hd] at hr'
    obtain rfl := Option.some.inj hr'
    obtain ⟨ne, hi⟩ := entryOf_fixEntry_held hy hi
    obtain ⟨x', hx', rfl⟩ := h.entry r i hr hi
    rw [hx] at hx'
    exact absurd (by rw [Option.some.inj hx']) ne
  · rw [hp, Option.map_eq_some_iff] at ht
    obtain ⟨t, ht, rfl⟩ := ht
    rw [hcontrol]
    exact h.formed t ht
  · rw [hp, Option.map_eq_some_iff] at ht
    obtain ⟨t, ht, rfl⟩ := ht
    rw [hcontrol]
    exact h.inRing t ht
  · rw [hp, Option.map_eq_some_iff] at ht
    obtain ⟨t, ht, rfl⟩ := ht
    intro mode
    refine h.remains t ht fun forwarding => mode ?_
    simp [releaseTransfer, forwarding]
  · rw [hd]
  · rw [hp, Option.map_eq_some_iff] at ht
    obtain ⟨t, -, rfl⟩ := ht
    unfold awaitsRelease releaseTransfer
    cases t.mode <;> simp

theorem redirectOrDamage_ne_held (d : Device) (r : DrainRecord) (i : Nat) : redirectOrDamage d r i ≠ .held := by
  unfold redirectOrDamage
  split
  · simp
  · split <;> simp

theorem releaseByWriteBack_holdWf (h : HoldWf d) (s i : Nat) : HoldWf (releaseByWriteBack s i d) := by
  unfold releaseByWriteBack
  split
  · next x r hx hr =>
    split
    · next here =>
      obtain ⟨_, _, hr', -, ticks, budget, -⟩ := h.held x hx
      obtain rfl : r = _ := by simpa [hr] using hr'
      rw [← here.1]
      exact h.release hx hr (by omega) s (by simp) id (fun _ => rfl) (fun _ => rfl) fun _ => rfl
    · exact h
  · exact h

theorem expireHold_holdWf (h : HoldWf d) : HoldWf (expireHold d) := by
  unfold expireHold
  split
  · next x r hx hr =>
    obtain ⟨_, _, hr', -, ticks, budget, -⟩ := h.held x hx
    obtain rfl : r = _ := by simpa [hr] using hr'
    exact h.release hx hr budget r.slot (redirectOrDamage_ne_held d r x.line) (bump .holdExpiries) (fun _ => by simp) (fun _ => by simp)
      fun _ => by simp
  · exact h

theorem tickHold_holdWf (h : HoldWf d) : HoldWf (tickHold d) := by
  unfold tickHold
  split
  · next x r hx hr =>
    split
    · next within =>
      obtain ⟨r', t, hr', ht, ticks, budget, read, rest, waits⟩ := h.held x hx
      obtain rfl : r = r' := by simpa [hr] using hr'
      refine holdWf_of_held ⟨h.record, h.closing, fun r' i hr' hi => ?_⟩ (h.port.congr rfl rfl) ⟨_, r, rfl, hr, within, budget⟩ ht read rest waits
      obtain ⟨x', hx', rfl⟩ := h.entry r' i hr' hi
      rw [hx] at hx'
      exact ⟨_, rfl, by rw [← Option.some.inj hx']⟩
    · exact expireHold_holdWf h
  · exact h

end

/-! ### Forming (R7, R127) -/

section
variable {d : Device}

theorem handOverClosing_delivery (d : Device) : (handOverClosing d).delivery = { d.delivery with closing := none } := by
  unfold handOverClosing
  split
  · next h => rw [← h]
  · simp only [handOverRecord_delivery]

theorem takeHold_delivery (i : Nat) (d : Device) : (takeHold i d).delivery =
    { d.delivery with
      record := d.delivery.record.map fun r =>
        { r with lines := modifyAt (fun _ => .held) i r.lines, holdCount := r.holdCount + 1 }
      held := some { line := i, ticks := 0 } } := by
  simp only [takeHold, onRecord, bump_delivery]

/-- A hold is given in no case but row 4 of R128. -/
theorem decideContext_held {r : DrainRecord} {i : Nat} (h : decideContext d r i = .held) :
    spoiled (slotAt d r.slot) = false ∧ 0 < r.holdBudget ∧ r.holdBudget ≤ r.allowanceLeft := by
  unfold decideContext at h
  extract_lets e before at h
  split at h
  · split at h <;> cases h
  · split_ifs at h with past spoilt offered
    · simp only [Bool.or_eq_true, not_or, Bool.not_eq_true] at spoilt
      simp only [holdOffered, Bool.and_eq_true, decide_eq_true_eq] at offered
      exact ⟨spoilt.1, offered.1.2, offered.2⟩
    · exact absurd h (redirectOrDamage_ne_held d r i)

/-- A beat takes Hold only by a HELD entry (R127). -/
theorem entryTreatment_hold {r : DrainRecord} {i q : Nat} (h : entryTreatment d r i q = .hold) : entryOf r i = .held := by
  simp only [entryTreatment] at h
  split at h
  · cases h
  · split at h
    · cases h
    · assumption
    all_goals cases h

theorem entryTreatment_of_held {r : DrainRecord} {i q : Nat} (clean : spoiled (slotAt d r.slot) = false) (h : entryOf r i = .held) :
    entryTreatment d r i q = .hold := by
  simp [entryTreatment, clean, h]

/-- What an answer to the port leaves: a hold that the record can pay, or none. -/
def Answered (d : Device) (held : Prop) : Prop :=
  DeliveryWf d ∧ d.control.run = .running ∧ (held ∧ HoldOpen d ∨ ¬ held ∧ d.delivery.held = none)

theorem settleLine_deliveryWf (h : DeliveryWf d) (s i : Nat) {x : LineEntry} (hx : x ≠ .held) : DeliveryWf (settleLine s i x d) := by
  refine ⟨fun r hr => ?_, by rw [settleLine_delivery]; exact h.closing, fun r k hr hk => ?_⟩
  · rw [settleLine_delivery, Option.map_eq_some_iff] at hr
    obtain ⟨r, hr, rfl⟩ := hr
    rw [settleLine_control]
    simpa [AllowanceKept, fixEntry] using h.record r hr
  · rw [settleLine_delivery, Option.map_eq_some_iff] at hr
    obtain ⟨r, hr, rfl⟩ := hr
    rw [settleLine_delivery]
    exact h.entry r k hr (entryOf_fixEntry_held hx hk).2

/-- With no hold waiting no entry is HELD. -/
theorem DeliveryWf.entry_ne_held (h : DeliveryWf d) (free : d.delivery.held = none) {r : DrainRecord} (hr : d.delivery.record = some r)
    (i : Nat) : entryOf r i ≠ .held := fun hi => by
  obtain ⟨x, hx, -⟩ := h.entry r i hr hi
  simp [free] at hx

theorem takeHold_answered (h : DeliveryWf d) (run : d.control.run = .running) (free : d.delivery.held = none) {r : DrainRecord}
    (hr : d.delivery.record = some r) {i : Nat} (inside : i < d.control.geometry.lines) (decided : decideContext d r i = .held) (q : Nat) :
    Answered (takeHold i d) ((takeHold i d).delivery.record.map (fun r => entryTreatment (takeHold i d) r i q) = some .hold) := by
  obtain ⟨kept, -, length⟩ := h.record r hr
  obtain ⟨clean, positive, budget⟩ := decideContext_held decided
  have record : (takeHold i d).delivery.record =
      some { r with lines := modifyAt (fun _ => .held) i r.lines, holdCount := r.holdCount + 1 } := by simp [takeHold_delivery, hr]
  have entry : ∀ k, entryOf { r with lines := modifyAt (fun _ => .held) i r.lines, holdCount := r.holdCount + 1 } k =
      if k = i ∧ i < r.lines.length then .held else entryOf r k := fun k => entryOf_modifyAt i k .held r
  have slots : slotAt (takeHold i d) r.slot = slotAt d r.slot := by simp [slotAt]
  refine ⟨⟨fun r' hr' => ?_, by rw [takeHold_delivery]; exact h.closing, fun r' k hr' hk => ?_⟩, by simpa using run,
    .inl ⟨?_, { line := i, ticks := 0 }, _, by rw [takeHold_delivery], record, positive, budget⟩⟩
  · obtain rfl := Option.some.inj (record.symm.trans hr')
    exact ⟨kept, by simpa using run, by simpa using length⟩
  · obtain rfl := Option.some.inj (record.symm.trans hr')
    rw [entry] at hk
    split at hk
    · next here => exact ⟨{ line := i, ticks := 0 }, by rw [takeHold_delivery], here.1.symm⟩
    · exact absurd hk (h.entry_ne_held free hr k)
  · rw [record, Option.map_some, entryTreatment_of_held (by rw [slots]; exact clean)]
    rw [entry, if_pos ⟨rfl, by rw [length]; exact inside⟩]

/-- The delivery unit's answer about a sample beat: it takes a hold exactly if it answers Hold. -/
theorem askSample_answered (h : DeliveryWf d) (run : d.control.run = .running) (free : d.delivery.held = none) {i : Nat}
    (inside : i < d.control.geometry.lines) (q : Nat) : Answered (askSample i q d).1 ((askSample i q d).2 = some .hold) := by
  have given : ∀ e : Device, DeliveryWf e → e.control = d.control → e.delivery.held = none →
      Answered e (e.delivery.record.map (fun r => entryTreatment e r i q) = some .hold) := fun e wf control free => by
    refine ⟨wf, by rw [control, run], .inr ⟨fun hold => ?_, free⟩⟩
    rw [Option.map_eq_some_iff] at hold
    obtain ⟨r, hr, hold⟩ := hold
    exact wf.entry_ne_held free hr i (entryTreatment_hold hold)
  unfold askSample
  split
  · exact ⟨h, run, .inr ⟨by simp, free⟩⟩
  · next r hr =>
    extract_lets d1
    show Answered d1 (d1.delivery.record.map (fun r => entryTreatment d1 r i q) = some .hold)
    by_cases open_ : undecided (entryOf r i) = true
    · have step : d1 = decideLine r i d := if_pos open_
      rw [step]
      unfold decideLine
      split
      · next decided => exact takeHold_answered h run free hr inside decided q
      · next other =>
        exact given _ (settleLine_deliveryWf h _ _ other) (by simp) (by rw [settleLine_delivery]; exact free)
    · have step : d1 = d := if_neg open_
      rw [step]
      exact given d h rfl free

theorem onRecord_deliveryWf (h : DeliveryWf d) (f : DrainRecord → DrainRecord) (figures : ∀ r, AllowanceKept r → AllowanceKept (f r))
    (lines : ∀ r, (f r).lines = r.lines) : DeliveryWf (onRecord f d) := by
  refine ⟨fun r hr => ?_, h.closing, fun r i hr hi => ?_⟩
  · simp only [onRecord, Option.map_eq_some_iff] at hr
    obtain ⟨r, hr, rfl⟩ := hr
    obtain ⟨kept, run, length⟩ := h.record r hr
    exact ⟨figures r kept, run, by rw [lines]; exact length⟩
  · simp only [onRecord, Option.map_eq_some_iff] at hr
    obtain ⟨r, hr, rfl⟩ := hr
    exact h.entry r i hr (by simpa [entryOf, lines] using hi)

/-- A drain end moves the record to the closing record or to the report unit (R37). -/
theorem endDrain_deliveryWf (h : DeliveryWf d) : DeliveryWf (endDrain d) ∧ (endDrain d).delivery.held = d.delivery.held := by
  unfold endDrain
  split
  · exact ⟨h, rfl⟩
  · unfold closeRecord
    split
    · exact ⟨h.congr (by simp) (by simp) (by simp), by simp⟩
    · next r hr =>
      have kept : AllowanceKept r := (h.record r (by simpa using hr)).1
      extract_lets d1 _ d2
      have hd2 : d2.delivery.record = none ∧ d2.delivery.closing = some { r with endKind := .complete } ∧
          d2.delivery.held = d.delivery.held := ⟨rfl, rfl, by show d1.delivery.held = _; simp [d1, handOverClosing_delivery]⟩
      split
      · simp only [handOverClosing_delivery]
        exact ⟨⟨by simp [handOverClosing_delivery, hd2.1], by simp [handOverClosing_delivery], by simp [handOverClosing_delivery, hd2.1]⟩,
          hd2.2.2⟩
      · refine ⟨⟨by simp [hd2.1], fun r' hr' => ?_, by simp [hd2.1]⟩, hd2.2.2⟩
        rw [hd2.2.1] at hr'
        obtain rfl := Option.some.inj hr'
        exact kept

/-- A fresh record has its whole allowance and no line decided (R124). -/
theorem openRecord_deliveryWf (h : DeliveryWf d) (run : d.control.run = .running) (s : Nat) : DeliveryWf (openRecord s d) := by
  refine ⟨fun r hr => ?_, h.closing, fun r i hr hi => ?_⟩
  · obtain rfl := Option.some.inj hr
    exact ⟨by simp [AllowanceKept], run, by simp⟩
  · obtain rfl := Option.some.inj hr
    simp only [entryOf, List.getD_eq_getElem?_getD, List.getElem?_replicate] at hi
    split at hi <;> cases hi

theorem baseRead_deliveryWf (h : DeliveryWf d) (run : d.control.run = .running) (s : Nat) :
    DeliveryWf (baseRead s d) ∧ (baseRead s d).control.run = .running ∧ (baseRead s d).delivery.held = d.delivery.held := by
  obtain ⟨ended, held⟩ := endDrain_deliveryWf h
  have run1 : (applyPending (endDrain d)).control.run = .running := by rw [applyPending_run, endDrain_control, run]
  have wf1 : DeliveryWf (applyPending (endDrain d)) := ended.congr (applyPending_run _) (applyPending_geometry _) (by simp)
  have drained : DeliveryWf (makeDraining s (applyPending (endDrain d))) := wf1.congr rfl rfl rfl
  unfold baseRead
  split
  · exact ⟨openRecord_deliveryWf drained run1 s, run1, by rw [← held, ← applyPending_delivery (endDrain d)]; rfl⟩
  · have marked : DeliveryWf (modifySlot s (fun e => { e with
        flags := { e.flags with overtake := true }, uncheckedFrom := uncheckedLine (applyPending (endDrain d)) })
        (makeDraining s (applyPending (endDrain d)))) := drained.congr rfl rfl rfl
    exact ⟨(openRecord_deliveryWf marked run1 s).congr rfl rfl rfl, run1,
      by rw [← held, ← applyPending_delivery (endDrain d)]; rfl⟩
  all_goals exact ⟨h, run, rfl⟩

theorem nameAddress_line_lines_lt {g : Geometry} {x s i q : Nat} (h : nameAddress g x = .line s i q) : i < g.lines := by
  unfold nameAddress at h
  split at h
  · extract_lets s' o at h
    split at h
    · next inside =>
      split at h
      · obtain ⟨-, rfl, -⟩ := BeatName.line.inj h
        have pos : 0 < g.linePitch := by
          by_contra hp
          have : g.linePitch = 0 := by omega
          simp [this] at inside
        rw [Nat.div_lt_iff_lt_mul pos]
        exact inside
      · cases h
    · cases h
  · cases h

/-- The answer to one beat of a forming in a run: it is Hold exactly if a hold is open after it. -/
theorem askBeat_answered (h : DeliveryWf d) (run : d.control.run = .running) (free : d.delivery.held = none) (a : Nat) :
    Answered (askBeat a d).device ((askBeat a d).treatment = .hold) := by
  have passes : ∀ e, DeliveryWf e → e.control.run = .running → e.delivery.held = none → Answered e (Treatment.readAt a = .hold) :=
    fun e wf run free => ⟨wf, run, .inr ⟨by simp, free⟩⟩
  unfold askBeat
  extract_lets g
  split
  · exact passes d h run free
  · exact passes d h run free
  · next s i q name =>
    extract_lets d1
    have begun : DeliveryWf d1 ∧ d1.control.run = .running ∧ d1.delivery.held = none ∧ d1.control.geometry = d.control.geometry := by
      simp only [d1]
      split
      · obtain ⟨wf, run', held⟩ := baseRead_deliveryWf h run s
        exact ⟨wf, run', held.trans free, by simp⟩
      · exact ⟨h, run, free, rfl⟩
    obtain ⟨wf1, run1, free1, geometry1⟩ := begun
    split
    · split
      · have inside : i < d1.control.geometry.lines := by rw [geometry1]; exact nameAddress_line_lines_lt name
        have answer := askSample_answered wf1 run1 free1 inside q
        have same : ((askSample i q d1).2.getD (.readAt a) = .hold) = ((askSample i q d1).2 = some .hold) := by
          cases (askSample i q d1).2 <;> simp
        show Answered (askSample i q d1).1 ((askSample i q d1).2.getD (.readAt a) = .hold)
        rwa [same]
      · exact passes d1 wf1 run1 free1
    · exact passes d1 wf1 run1 free1

theorem takeIn_deliveryWf {k : Asked} (h : DeliveryWf k.device) (run : k.device.control.run = .running)
    (free : k.device.delivery.held = none) :
    DeliveryWf (takeIn k) ∧ (takeIn k).control.run = .running ∧ (takeIn k).delivery.held = none := by
  unfold takeIn
  extract_lets d1
  have counted : DeliveryWf d1 ∧ d1.control.run = .running ∧ d1.delivery.held = none := by
    simp only [d1]
    split
    · exact ⟨onRecord_deliveryWf h _ (fun _ kept => kept) fun _ => rfl, run, free⟩
    · exact ⟨h, run, free⟩
  obtain ⟨wf, run, free⟩ := counted
  split
  · obtain ⟨ended, held⟩ := endDrain_deliveryWf wf
    exact ⟨ended, by simpa using run, held.trans free⟩
  · exact ⟨wf, run, free⟩

/-- A forming in a run stops at a Hold exactly if it leaves a hold open, and then short of its beats (R7). -/
theorem formPart_answered (n a : Nat) (f : Option Nat) {d : Device} (h : DeliveryWf d) (run : d.control.run = .running)
    (free : d.delivery.held = none) :
    Answered (formPart n a f d).device ((formPart n a f d).hold = true) ∧
      ((formPart n a f d).hold = true → (formPart n a f d).tags.length < n) ∧
      (0 < n → f = none → (formPart n a f d).start = none → (formPart n a f d).hold = true) := by
  induction n generalizing a f d with
  | zero => exact ⟨⟨h, run, .inr ⟨by simp [formPart], free⟩⟩, by simp [formPart], by simp⟩
  | succ n ih =>
    obtain ⟨wf, run', answer⟩ := askBeat_answered h run free a
    unfold formPart
    extract_lets k
    split
    · next hold =>
      have opened : HoldOpen k.device := by
        rcases answer with ⟨-, opened⟩ | ⟨no, -⟩
        · exact opened
        · exact absurd hold no
      exact ⟨⟨wf, run', .inl ⟨rfl, opened⟩⟩, by simp, by simp⟩
    · next m read =>
      have free' : k.device.delivery.held = none := by
        rcases answer with ⟨hold, -⟩ | ⟨-, free'⟩
        · exact absurd (read.symm.trans hold) (by simp)
        · exact free'
      split
      · obtain ⟨wf1, run1, free1⟩ := takeIn_deliveryWf wf run' free'
        obtain ⟨answered, short, -⟩ := ih (a + 4) (some (m + 4)) wf1 run1 free1
        exact ⟨answered, fun hold => by simpa using short hold, by simp⟩
      · next apart =>
        exact ⟨⟨wf, run', .inr ⟨by simp, free'⟩⟩, by simp, fun _ none => absurd (.inl none) apart⟩

end

/-! ### Grants (R7, R10) -/

section
variable {d : Device}

/-- Port transfer t is put on the memory side or held: what the port bookkeeping still asks for. -/
theorem PortWf.replace {e : Device} {t u : BurnerTransfer} (h : PortWf d) (ht : d.port.transfer = some t)
    (hu : e.port.transfer = some u) (run : e.control.run = d.control.run) (write : u.write = t.write)
    (unchanged : u.unchanged = t.unchanged) (outside : u.outside = t.outside) (rest : u.mode ≠ .forwarding → u.next < u.beats) :
    PortWf e := by
  refine ⟨fun u' hu' => ?_, fun u' hu' => ?_, fun u' hu' => ?_⟩ <;> obtain rfl := Option.some.inj (hu.symm.trans hu')
  · rw [write, unchanged, run]; exact h.formed t ht
  · rw [outside, run]; exact h.inRing t ht
  · exact rest

/-- A part formed under R7 leaves a hold open exactly if the port waits for it (R7, R10). -/
theorem forwardPart_holdWf (h : HoldWf d) {t : BurnerTransfer} (ht : d.port.transfer = some t) (waits : t.mode = .waiting)
    (read : t.write = false) (formed : t.unchanged = false) : HoldWf (forwardPart t d) := by
  have free : d.delivery.held = none := h.held_none fun u hu => by
    obtain rfl := Option.some.inj (ht.symm.trans hu)
    simp [awaitsRelease, waits]
  have run := h.formed t ht read formed
  have rest := h.remains t ht (by simp [waits])
  obtain ⟨⟨side, run', answer⟩, short, stops⟩ := formPart_answered (t.beats - t.next) (t.addr + 4 * t.next) none h.delivery run free
  unfold forwardPart
  extract_lets f
  have opened : f.hold = true → HoldOpen f.device := fun hold => by
    rcases answer with ⟨-, opened⟩ | ⟨no, -⟩
    · exact opened
    · exact absurd hold no
  split
  · next start =>
    have hold : f.hold = true := stops (by omega) rfl start
    exact holdWf_of_held (side.congr rfl rfl rfl) (h.port.replace ht rfl (run'.trans run.symm) rfl rfl rfl fun _ => rest) (opened hold) rfl
      read (by simpa using rest) (.inl rfl)
  · next m start =>
    have port : PortWf (setBus (some { byEngine := false, write := false, addr := m, beats := f.tags.length, lanes := [], orphan := false })
        (setTransfer (some { t with mode := .forwarding, holdAsked := f.hold, inPart := f.tags }) f.device)) :=
      h.port.replace ht rfl (run'.trans run.symm) rfl rfl rfl fun forwarding => absurd rfl forwarding
    by_cases hold : f.hold = true
    · refine holdWf_of_held (side.congr rfl rfl rfl) port (opened hold) rfl read ?_ (.inr ⟨rfl, hold⟩)
      have short : f.tags.length < t.beats - t.next := short hold
      show t.next + f.tags.length < t.beats
      omega
    · refine holdWf_of_released (side.congr rfl rfl rfl) port ?_ fun u hu => ?_
      · rcases answer with ⟨yes, -⟩ | ⟨-, free'⟩
        · exact absurd yes hold
        · exact free'
      · obtain rfl := Option.some.inj hu
        simp [awaitsRelease, hold]

/-- A transfer forwarded whole waits for no hold (R2, R16, R17). -/
theorem forwardWhole_holdWf (h : HoldWf d) {t : BurnerTransfer} (ht : d.port.transfer = some t) (waits : t.mode = .waiting) :
    HoldWf (forwardWhole t d) := by
  have free : d.delivery.held = none := h.held_none fun u hu => by
    obtain rfl := Option.some.inj (ht.symm.trans hu)
    simp [awaitsRelease, waits]
  refine holdWf_of_released (h.delivery.congr rfl rfl rfl)
    (h.port.replace ht rfl rfl rfl rfl rfl fun forwarding => absurd rfl forwarding) free fun u hu => ?_
  obtain rfl := Option.some.inj hu
  simp [awaitsRelease]

theorem grantBurnerIfFree_holdWf (h : HoldWf d) : HoldWf (grantBurnerIfFree d) := by
  unfold grantBurnerIfFree
  split
  · next granted =>
    simp only [Bool.and_eq_true, burnerClaim, beq_iff_eq] at granted
    obtain ⟨t, ht, waits⟩ := portState_eq_waiting.1 granted.2
    have cleared : HoldWf { d with arbiter := { d.arbiter with passOver := false } } := h.congr rfl rfl rfl rfl
    simp only [grantBurner, ht]
    split
    · exact forwardWhole_holdWf cleared ht waits
    · next formed =>
      simp only [Bool.or_eq_true, not_or, Bool.not_eq_true] at formed
      exact forwardPart_holdWf cleared ht waits formed.1 formed.2
  · exact h

theorem grantEngineIfFree_holdWf (h : HoldWf d) : HoldWf (grantEngineIfFree d) := by
  unfold grantEngineIfFree
  split
  · exact h.congr (by simp) (by simp) (by simp) (by simp)
  · exact h

theorem arbitrate_holdWf (h : HoldWf d) : HoldWf (arbitrate d) := by
  unfold arbitrate
  split
  · exact h
  · split
    · exact grantBurnerIfFree_holdWf (grantEngineIfFree_holdWf (h.congr rfl rfl rfl rfl))
    · exact grantEngineIfFree_holdWf (grantBurnerIfFree_holdWf h)

/-! ### Beats and completions -/

/-- A write beat leaves the delivery unit alone, but for a record reported OVERWRITTEN (R27, R142). -/
theorem beginSlot_delivery (s : Nat) (d : Device) :
    (beginSlot s d).delivery = d.delivery ∨ (beginSlot s d).delivery = { d.delivery with record := none } := by
  unfold beginSlot
  simp only [startTable_delivery, fillWith_delivery, freeSpans_delivery]
  unfold disposeFrame
  extract_lets e
  split
  · exact .inl rfl
  · exact .inl rfl
  · exact .inl (by simp)
  · exact .inl (by simp)
  · right
    simp only [noDraining_delivery, raise_delivery, handOverDraining]
    split
    · next none => rw [← none]
    · simp only [handOverRecord_delivery]

theorem runningBeat_delivery (first : Bool) (s i q : Nat) (b : Beat) (x : Enables) (d : Device) :
    (runningBeat first s i q b x d).delivery = d.delivery ∨
      (runningBeat first s i q b x d).delivery = { d.delivery with record := none } := by
  unfold runningBeat
  split_ifs
  · simp only [checkBeat_delivery]
    unfold beginWrite
    split_ifs
    · exact beginSlot_delivery s d
    · simpa [advanceTo] using beginSlot_delivery s (closeOpenFill false d)
    · unfold jumpTo
      extract_lets d1
      have same : (if d1.ring.fillSlot = some s then d1 else closeOpenFill true d1).delivery = d.delivery := by
        split <;> simp [d1]
      simpa [same] using beginSlot_delivery s (if d1.ring.fillSlot = some s then d1 else closeOpenFill true d1)
  · exact .inl (by simp)
  · exact .inl (by simp)
  · exact .inl (by simp)

theorem takeWriteBeat_delivery (first outside : Bool) (a : Nat) (b : Beat) (x : Enables) (d : Device) :
    (takeWriteBeat first outside a b x d).delivery = d.delivery ∨
      (takeWriteBeat first outside a b x d).delivery = { d.delivery with record := none } := by
  unfold takeWriteBeat
  split
  · exact .inl rfl
  · exact .inl rfl
  · split
    · exact .inl rfl
    · split
      · exact .inl (by simp)
      · exact .inl rfl
    · simpa using runningBeat_delivery first _ _ _ b x d

/-- A write beat changes the run state only where a write that the ring does not leave out starts the run (R4, R23). -/
theorem takeWriteBeat_run (first outside : Bool) (a : Nat) (b : Beat) (x : Enables) (d : Device) :
    (takeWriteBeat first outside a b x d).control.run = d.control.run ∨
      d.control.run = .armed ∧ outside = false ∧ (takeWriteBeat first outside a b x d).control.run = .running := by
  unfold takeWriteBeat
  split
  · exact .inl rfl
  · exact .inl rfl
  · split
    · exact .inl rfl
    · next armed =>
      split
      · next starts =>
        refine .inr ⟨armed, ?_, ?_⟩
        · simp only [Bool.and_eq_true, Bool.not_eq_true'] at starts
          exact starts.1.1.2
        · simp [startRun]
      · exact .inl rfl
    · exact .inl (by simp)

/-- A write on the memory side waits for no hold. -/
theorem HoldWf.held_none_of_write (h : HoldWf d) {t : BurnerTransfer} (ht : d.port.transfer = some t) (write : t.write = true) :
    d.delivery.held = none := by
  cases hh : d.delivery.held with
  | none => rfl
  | some x =>
    obtain ⟨_, u, -, hu, -, -, read, -⟩ := h.held x hh
    obtain rfl := Option.some.inj (ht.symm.trans hu)
    simp [write] at read

theorem acceptWrite_holdWf (h : HoldWf d) (due : writeBeatDue d = true) (b : Beat) (x : Enables) : HoldWf (acceptWrite b x d) := by
  unfold acceptWrite
  cases ht : d.port.transfer with
  | none => exact h
  | some t =>
    simp only [writeBeatDue, ht, Option.elim_some, Bool.and_eq_true, beq_iff_eq] at due
    obtain ⟨⟨write, forwarding⟩, -⟩ := due
    have free := h.held_none_of_write ht write
    have asked : ¬ awaitsRelease t := h.released free t ht
    show HoldWf (takeWriteBeat (t.next == 0) t.outside (t.addr + 4 * t.next) b x (acceptBeat t b x d))
    let u : BurnerTransfer := { t with next := t.next + 1, written := t.written ++ [(b, x)] }
    have hu : (takeWriteBeat (t.next == 0) t.outside (t.addr + 4 * t.next) b x (acceptBeat t b x d)).port.transfer = some u := by
      simp [acceptBeat, u]
    have run := takeWriteBeat_run (t.next == 0) t.outside (t.addr + 4 * t.next) b x (acceptBeat t b x d)
    have delivery := takeWriteBeat_delivery (t.next == 0) t.outside (t.addr + 4 * t.next) b x (acceptBeat t b x d)
    have geometry : (takeWriteBeat (t.next == 0) t.outside (t.addr + 4 * t.next) b x (acceptBeat t b x d)).control.geometry =
        d.control.geometry := by simp [acceptBeat]
    generalize takeWriteBeat (t.next == 0) t.outside (t.addr + 4 * t.next) b x (acceptBeat t b x d) = e at *
    have run : e.control.run = d.control.run ∨ d.control.run = .armed ∧ t.outside = false ∧ e.control.run = .running := run
    have delivery : e.delivery = d.delivery ∨ e.delivery = { d.delivery with record := none } := delivery
    have closing : e.delivery.closing = d.delivery.closing ∧ e.delivery.held = none := by
      rcases delivery with same | same <;> simp [same, free]
    have record : ∀ r, e.delivery.record = some r → d.delivery.record = some r := fun r hr => by
      rcases delivery with same | same
      · rwa [same] at hr
      · simp [same] at hr
    refine holdWf_of_released ⟨fun r hr => ?_, by rw [closing.1]; exact h.closing, fun r i hr hi => ?_⟩
      ⟨fun u' hu' => ?_, fun u' hu' => ?_, fun u' hu' => ?_⟩ closing.2 fun u' hu' => ?_
    · obtain ⟨kept, running, length⟩ := h.record r (record r hr)
      refine ⟨kept, ?_, by rw [geometry]; exact length⟩
      rcases run with same | ⟨armed, -⟩
      · rw [same, running]
      · rw [armed] at running; cases running
    · exact absurd hi (h.delivery.entry_ne_held free (record r hr) i)
    · obtain rfl := Option.some.inj (hu.symm.trans hu')
      simp [u, write]
    · obtain rfl := Option.some.inj (hu.symm.trans hu')
      intro running
      rcases run with same | ⟨-, inside, -⟩
      · exact h.inRing t ht (same.symm.trans running)
      · exact inside
    · obtain rfl := Option.some.inj (hu.symm.trans hu')
      simp [u, forwarding]
    · obtain rfl := Option.some.inj (hu.symm.trans hu')
      exact asked

/-- The figures and lines of a record. -/
def holdFigures (r : DrainRecord) : Nat × Nat × Nat × Nat × List LineEntry :=
  (r.holdTime, r.allowanceLeft, r.holdAllowance, r.holdBudget, r.lines)

/-- A passing beat leaves the figures and lines of the records and the held-read context alone (R140, R141). -/
theorem passThrough_figures (t : Option BeatTag) (b : Beat) (d : Device) :
    (passThrough t b d).1.delivery.record.map holdFigures = d.delivery.record.map holdFigures ∧
      (passThrough t b d).1.delivery.held = d.delivery.held ∧
      ∀ r, (passThrough t b d).1.delivery.closing = some r → ∃ r', d.delivery.closing = some r' ∧ holdFigures r = holdFigures r' := by
  have kept : ∀ e : Device, e.delivery = d.delivery → e.delivery.record.map holdFigures = d.delivery.record.map holdFigures ∧
      e.delivery.held = d.delivery.held ∧ ∀ r, e.delivery.closing = some r → ∃ r', d.delivery.closing = some r' ∧ holdFigures r = holdFigures r' :=
    fun e same => ⟨by rw [same], by rw [same], fun r hr => ⟨r, by rw [← same]; exact hr, rfl⟩⟩
  have tracked : ∀ (p : Passing) (e : Device), (trackBeat p e).delivery = { e.delivery with context := p.context, countedHead := p.countedHead } := by
    intro p e
    unfold trackBeat
    extract_lets e1
    split
    · rw [bump_delivery]
    · rfl
  cases t with
  | none => exact kept d rfl
  | some t =>
    unfold passThrough deliverBeat
    simp only
    split
    · next r hr =>
      split
      · simp [handOverClosing_delivery, tracked]
      · refine ⟨by rw [tracked], by rw [tracked], fun r' hr' => ⟨r, hr, ?_⟩⟩
        rw [tracked] at hr'
        obtain rfl := Option.some.inj hr'
        rfl
    · next hc =>
      split
      · next r hr =>
        refine ⟨by rw [tracked, hr]; rfl, by rw [tracked], fun r' hr' => ?_⟩
        rw [tracked] at hr'
        exact absurd (hc.symm.trans hr') (by simp)
      · next hr => exact kept d rfl

theorem returnBeat_holdWf (h : HoldWf d) (due : readBeatDue d = true) (b : Beat) : HoldWf (returnBeat b d) := by
  unfold returnBeat
  cases ht : d.port.transfer with
  | none => exact h
  | some t =>
    simp only [readBeatDue, ht, Option.elim_some, Bool.and_eq_true, beq_iff_eq, Bool.not_eq_true'] at due
    obtain ⟨⟨read, forwarding⟩, left⟩ := due
    show HoldWf (giveBeat t (passThrough (t.inPart.head?.getD none) b d).2 (passThrough (t.inPart.head?.getD none) b d).1)
    obtain ⟨record, held, closing⟩ := passThrough_figures (t.inPart.head?.getD none) b d
    have control := passThrough_control (t.inPart.head?.getD none) b d
    generalize passThrough (t.inPart.head?.getD none) b d = k at *
    have figures : ∀ r, k.1.delivery.record = some r → ∃ r', d.delivery.record = some r' ∧ holdFigures r' = holdFigures r := fun r hr => by
      rw [hr, Option.map_some] at record
      exact Option.map_eq_some_iff.1 record.symm
    have side : DeliveryWf (giveBeat t k.2 k.1) := by
      refine ⟨fun r hr => ?_, fun r hr => ?_, fun r i hr hi => ?_⟩
      · obtain ⟨r', hr', same⟩ := figures r hr
        obtain ⟨kept, running, length⟩ := h.record r' hr'
        simp only [holdFigures, Prod.mk.injEq] at same
        obtain ⟨s1, s2, s3, -, s5⟩ := same
        refine ⟨?_, by simpa [giveBeat, control] using running, by rw [← s5]; simpa [giveBeat, control] using length⟩
        rw [AllowanceKept, ← s1, ← s2, ← s3]
        exact kept
      · obtain ⟨r', hr', same⟩ := closing r hr
        simp only [holdFigures, Prod.mk.injEq] at same
        obtain ⟨s1, s2, s3, -⟩ := same
        rw [AllowanceKept, s1, s2, s3]
        exact h.closing r' hr'
      · obtain ⟨r', hr', same⟩ := figures r hr
        simp only [holdFigures, Prod.mk.injEq] at same
        obtain ⟨-, -, -, -, s5⟩ := same
        obtain ⟨x, hx, line⟩ := h.entry r' i hr' (by simpa [entryOf, s5] using hi)
        exact ⟨x, held.trans hx, line⟩
    have port : PortWf (giveBeat t k.2 k.1) :=
      h.port.replace ht rfl (by simp [giveBeat, control]) rfl rfl rfl fun ne => absurd forwarding ne
    cases hh : d.delivery.held with
    | none =>
      refine holdWf_of_released side port (held.trans hh) fun u hu => ?_
      obtain rfl := Option.some.inj hu
      exact h.released hh t ht
    | some x =>
      obtain ⟨r, u, hr, hu, ticks, budget, -, rest, waits⟩ := h.held x hh
      obtain rfl := Option.some.inj (ht.symm.trans hu)
      rw [hr, Option.map_some, Option.map_eq_some_iff] at record
      obtain ⟨r', hr', same⟩ := record
      simp only [holdFigures, Prod.mk.injEq] at same
      obtain ⟨-, s2, -, s4, -⟩ := same
      refine holdWf_of_held side port ⟨x, r', held.trans hh, hr', by omega, by omega⟩ rfl read ?_ waits
      have length : t.inPart.length = t.inPart.tail.length + 1 := by
        cases hp : t.inPart with
        | nil => simp [hp] at left
        | cons y ys => rfl
      show t.next + 1 + t.inPart.tail.length < t.beats
      omega

theorem HoldWf.of_same {e : Device} (h : HoldWf d) (same : e.control = d.control ∧ e.port = d.port ∧ e.delivery = d.delivery) :
    HoldWf e := by
  obtain ⟨control, port, delivery⟩ := same
  exact h.congr (by rw [control]) (by rw [control]) (by rw [port]) delivery

theorem finishWriteBack_holdWf (h : HoldWf d) (j : Job) : HoldWf (finishWriteBack j d) := by
  unfold finishWriteBack
  extract_lets i d1 d2
  have tallied : HoldWf d2 := h.of_same (by simp only [d2, d1]; split <;> simp [tallyLine])
  exact (releaseByWriteBack_holdWf tallied j.slot i).of_same (by simp)

theorem finishRun_holdWf (h : HoldWf d) (j : Job) : HoldWf (finishRun j d) := by
  unfold finishRun
  extract_lets
  split
  · exact h.of_same (by simp)
  · exact h.of_same (by simp)
  · exact h.of_same (by simp)
  · exact finishWriteBack_holdWf h j
  · exact h

theorem engineCompletion_holdWf (h : HoldWf d) (m : MemTransfer) (data : List Beat) : HoldWf (engineCompletion m data d) := by
  unfold engineCompletion
  split
  · exact h
  · extract_lets j d1
    have brought : HoldWf d1 := h.of_same (by simp [d1])
    have went : HoldWf (if j.next < j.stop then testTransfer j d1 else finishRun j d1) := by
      split
      · exact brought.of_same (by simp)
      · exact finishRun_holdWf brought j
    exact went.of_same (by simp)

theorem completeTransfer_holdWf (h : HoldWf d) (bus : BusWf d) {m : MemTransfer} (hm : d.arbiter.onBus = some m)
    (passed : beatsOutstanding m d = false) (data : List Beat) : HoldWf (completeTransfer m data d) := by
  unfold completeTransfer
  extract_lets d1
  have freed : HoldWf d1 := h.congr rfl rfl rfl rfl
  refine arbitrate_holdWf ?_
  split
  · split
    · exact freed
    · exact engineCompletion_holdWf freed m data
  · next burner =>
    simp only [Bool.not_eq_true] at burner
    obtain ⟨t, ht, forwarding⟩ := bus.burner m hm burner
    have inPart : t.write = false → t.inPart = [] := fun read => by
      simpa [beatsOutstanding, burner, ht, forwarding, read] using passed
    have goes : t.holdAsked = false → ∀ u, d.port.transfer = some u → ¬ awaitsRelease u := fun asked u hu => by
      obtain rfl := Option.some.inj (ht.symm.trans hu)
      simp [awaitsRelease, forwarding, asked]
    have side : DeliveryWf (completeBurner d1) := freed.delivery.congr rfl rfl rfl
    have after : (completeBurner d1).port.transfer = afterPart t := by
      show d.port.transfer.bind afterPart = afterPart t
      rw [ht, Option.bind_some]
    rw [afterPart] at after
    split_ifs at after with done asked
    · have free : d.delivery.held = none := by
        cases hh : d.delivery.held with
        | none => rfl
        | some x =>
          obtain ⟨_, u, -, hu, -, -, -, rest, -⟩ := h.held x hh
          obtain rfl := Option.some.inj (ht.symm.trans hu)
          omega
      refine holdWf_of_released side ⟨fun u hu => ?_, fun u hu => ?_, fun u hu => ?_⟩ free fun u hu => ?_ <;> simp [after] at hu
    · have port : PortWf (completeBurner d1) := h.port.replace ht after rfl rfl rfl rfl fun _ => by simpa using done
      cases hh : d.delivery.held with
      | none => exact absurd (.inr ⟨forwarding, asked⟩) (h.released hh t ht)
      | some x =>
        obtain ⟨r, u, hr, hu, ticks, budget, read, -⟩ := h.held x hh
        obtain rfl := Option.some.inj (ht.symm.trans hu)
        exact holdWf_of_held side port ⟨x, r, hh, hr, ticks, budget⟩ after read (by simpa using done) (.inl rfl)
    · simp only [Bool.not_eq_true] at asked
      refine holdWf_of_released side (h.port.replace ht after rfl rfl rfl rfl fun _ => by simpa using done) (h.held_none (goes asked))
        fun u hu => ?_
      obtain rfl := Option.some.inj (after.symm.trans hu)
      simp [awaitsRelease]

/-! ### The commands -/

/-- A free port, and a delivery unit at its starting values, out of a run (R16, R17). -/
theorem freePort_holdWf {r : Device} (ended : Bool) (h : HoldWf d) (port : r.port = d.port) (off : r.control.run = .off)
    (delivery : r.delivery = Delivery.start) : HoldWf (freePort ended r) := by
  refine holdWf_of_released ⟨?_, ?_, ?_⟩ ⟨fun u hu => ?_, fun _ _ run => ?_, fun u hu mode => ?_⟩ ?_ fun u hu => ?_
  · simp [freePort, delivery, Delivery.start]
  · simp [freePort, delivery, Delivery.start]
  · simp [freePort, delivery, Delivery.start]
  · simp only [freePort, Option.map_eq_some_iff] at hu
    obtain ⟨t, -, rfl⟩ := hu
    simp [unchangedRest]
  · simp [freePort, off] at run
  · simp only [freePort, port, Option.map_eq_some_iff] at hu
    obtain ⟨t, ht, rfl⟩ := hu
    refine h.remains t ht fun forwarding => mode ?_
    simp [unchangedRest, releaseTransfer, forwarding]
  · simp [freePort, delivery, Delivery.start]
  · simp only [freePort, Option.map_eq_some_iff] at hu
    obtain ⟨t, -, rfl⟩ := hu
    unfold awaitsRelease unchangedRest releaseTransfer
    cases t.mode <;> simp

/-- With no record open no hold waits and the port waits for none. -/
theorem HoldWf.no_hold (h : HoldWf d) (run : d.control.run ≠ .running) :
    d.delivery.record = none ∧ d.delivery.held = none := by
  have record : d.delivery.record = none := by
    cases hr : d.delivery.record with
    | none => rfl
    | some r => exact absurd (h.record r hr).2.1 run
  refine ⟨record, ?_⟩
  cases hh : d.delivery.held with
  | none => rfl
  | some x =>
    obtain ⟨r, -, hr, -⟩ := h.held x hh
    simp [record] at hr

end

theorem busHoldWf_keptByBlocks : KeptByBlocks BusHoldWf where
  same := fun d e s h => ⟨busWf_keptByBlocks.same d e s h.1, h.2.congr s.run s.geometry (by rw [s.port]) s.delivery⟩
  tick := fun d h held => ⟨busWf_keptByBlocks.tick d h.1 held, arbitrate_holdWf (tickHold_holdWf h.2)⟩
  start := fun w x n d h idle => by
    refine ⟨busWf_keptByBlocks.start w x n d h.1 idle, arbitrate_holdWf ?_⟩
    have free : d.delivery.held = none := h.2.held_none fun t ht => by simp [idle] at ht
    refine holdWf_of_released (h.2.delivery.congr rfl rfl rfl) ⟨fun u hu => ?_, fun u hu run => ?_, fun u hu _ => ?_⟩ free fun u hu => ?_ <;>
      obtain rfl := Option.some.inj hu
    · simp [newTransfer]
    · have run : d.control.run = .running := run
      simp [newTransfer, run]
    · simp [newTransfer]
    · simp [newTransfer, awaitsRelease]
  accept := fun b x d h due => ⟨busWf_keptByBlocks.accept b x d h.1 due, acceptWrite_holdWf h.2 due b x⟩
  back := fun b d h due => ⟨busWf_keptByBlocks.back b d h.1 due, returnBeat_holdWf h.2 due b⟩
  complete := fun m l d h bus passed =>
    ⟨busWf_keptByBlocks.complete m l d h.1 bus passed, completeTransfer_holdWf h.2 h.1 bus passed l⟩
  expire := fun d h held => ⟨busWf_keptByBlocks.expire d h.1 held, arbitrate_holdWf (expireHold_holdWf h.2)⟩
  reset := fun d h => ⟨busWf_keptByBlocks.reset d h.1, arbitrate_holdWf (freePort_holdWf true h.2 rfl rfl rfl)⟩
  arm := fun d h off => by
    obtain ⟨record, free⟩ := h.2.no_hold (by simp [off])
    refine ⟨busWf_keptByBlocks.arm d h.1 off, holdWf_of_released ⟨fun r hr => ?_, h.2.closing, fun r i hr => ?_⟩
      ⟨fun u hu read formed => ?_, fun u hu run => ?_, h.2.remains⟩ free (h.2.released free)⟩
    · exact absurd (record.symm.trans hr) (by simp)
    · exact absurd (record.symm.trans hr) (by simp)
    · have run := h.2.formed u hu read formed
      rw [off] at run
      cases run
    · cases run
  endRun := fun d h on => by
    refine ⟨busWf_keptByBlocks.endRun d h.1 on, ?_⟩
    unfold endRunPart
    extract_lets ended d1 d2 d3 d4
    refine arbitrate_holdWf (freePort_holdWf ended h.2 ?_ rfl ?_)
    · show d4.port = d.port
      rw [(endQuery_blocks d3).1]
      simp [d3, d2, d1, clearRun, endHold_port]
    · show d4.delivery = _
      rw [show d4.delivery = d3.delivery by unfold d4 endQuery; split <;> simp]
      rfl

end Sys2Proof.Machine

namespace Sys2Proof.Bus

open Sys2Proof.Machine

/-- Settles O9: a hold is opened where a forming stops at a Hold, with the port waiting for it, and is closed together with the port's
wait; and a write enters a run only as the one that starts it. -/
theorem holdBookkeepingIsKept : Obligations.HoldBookkeepingIsKept := busHoldWf_keptByBlocks.keptByStep

end Sys2Proof.Bus
end

section
/-! PROOFS. The queue, the tick and the reset values; the commands that stop; transactions and requests of the link (section 9.5 to 9.7). -/

namespace Sys2Proof.Machine

/-! ### The tick -/

/-- With the bookkeeping of the memory side kept no claim is left to grant. -/
theorem arbitrate_of_busWf {d : Device} (h : BusWf d) : arbitrate d = d := by
  by_cases bus : d.arbiter.onBus = none
  · obtain ⟨claim, port⟩ := h.free bus
    exact arbitrate_idle claim port
  · exact arbitrate_busy bus

theorem step_of_idle {s : State} (h : s.pending = []) : step s = .next (s.onDevice tick) := by simp [step, h]

theorem tick_of_hold {d : Device} {x : HeldRead} (h : d.delivery.held = some x) : tick d = arbitrate (tickHold d) := by
  simp [tick, h]

/-- A tick short of the budget is counted (R131). -/
theorem tickHold_counts {d : Device} {x : HeldRead} {r : DrainRecord} (hx : d.delivery.held = some x) (hr : d.delivery.record = some r)
    (short : x.ticks + 1 < r.holdBudget) :
    tickHold d = { d with delivery := { d.delivery with held := some { x with ticks := x.ticks + 1 } } } := by
  simp [tickHold, hx, hr, short]

/-- The tick that reaches the budget expires the hold (R134). -/
theorem tickHold_expires {d : Device} {x : HeldRead} {r : DrainRecord} (hx : d.delivery.held = some x) (hr : d.delivery.record = some r)
    (spent : r.holdBudget ≤ x.ticks + 1) : tickHold d = expireHold d := by
  simp [tickHold, hx, hr, spent.not_gt]

/-! ### Requests taken -/

/-- The part after LOCK_HELD's reload. -/
def reloaded (t : Transaction) (s : State) : Device :=
  { s.toDevice with ring := { s.ring with lockHeld := lockHeldAfter t s } }

section
variable {s : State} {t : Transaction} {c : Instr} {code arg : Byte} {p : List Byte}

/-- A request in a transaction before its request acts on the part after LOCK_HELD's reload (R24, R169). -/
theorem exec_awaits {act : Device → Device} (h : awaitsRequest s t) (goes : guard c s.toDevice)
    (clocks : effect c = clockRequest code arg p act) : exec c s = .next { s with toDevice := act (reloaded t s) } := by
  rw [exec_of_guard goes, State.onDevice, clocks, clockRequest_awaits h, reloadLockHeld_eq]
  rfl

/-- A request that only replies (R171, R172). -/
theorem exec_replies {bytes : List Byte} (h : awaitsRequest s t) (goes : guard c s.toDevice)
    (clocks : ∃ act, effect c = clockRequest code arg p act ∧ act (reloaded t s) = goodRequest bytes (reloaded t s)) :
    exec c s = .next (afterTake s t false .taken bytes) := by
  obtain ⟨act, clocks, replies⟩ := clocks
  rw [exec_awaits h goes clocks, replies, goodRequest_awaits h (reloaded t s) bytes (by rfl)]
  rfl

/-- A bad request (R171). -/
theorem exec_bad (h : awaitsRequest s t) (goes : guard c s.toDevice)
    (clocks : ∃ act, effect c = clockRequest code arg p act ∧ act (reloaded t s) = badRequest (reloaded t s)) :
    exec c s = .next (afterTake s t true .taken []) := by
  obtain ⟨act, clocks, refuses⟩ := clocks
  rw [exec_awaits h goes clocks, refuses, badRequest_awaits h (reloaded t s) (by rfl)]
  rfl

/-- A reply put in the reload's transaction (R172). -/
theorem putReply_reloaded (h : awaitsRequest s t) (phase : TransactionPhase) (reply : List Byte) (d : Device)
    (line : d.link.line = s.link.line) :
    putReply phase reply d = { d with link := { d.link with line := .active { t with phase := phase, reply := reply } } } := by
  simp [putReply, line, h.1, setLine]

/-- An input request whose payload is complete is stored (R169, R171, R172). -/
theorem exec_stores {r : InputRequest} (h : awaitsRequest s t) (goes : guard c s.toDevice)
    (clocks : effect c = clockRequest code arg p (feedPayload r p)) (full : payloadLength r ≤ p.length) :
    exec c s = .next { s with toDevice := goodRequest [] (storePayload r (p.take (payloadLength r)) (reloaded t s)) } := by
  rw [exec_awaits h goes clocks, feedPayload, if_neg (by omega)]

/-- An input request short of its payload waits for the rest (R169, R172). -/
theorem exec_waits {r : InputRequest} (h : awaitsRequest s t) (goes : guard c s.toDevice)
    (clocks : effect c = clockRequest code arg p (feedPayload r p)) (short : p.length < payloadLength r) :
    exec c s = .next (afterTake s t s.link.requestBad (.collecting r p) []) := by
  rw [exec_awaits h goes clocks, feedPayload, if_pos short, putReply_reloaded h _ _ (reloaded t s) (by rfl)]
  rfl

end

/-! ### Payload in progress (R169) -/

/-- The bytes that a request's clocking takes. -/
theorem effect_request {c : Instr} (h : isRequest c = true) : ∃ (code arg : Byte) (p : List Byte) (act : Device → Device),
    effect c = clockRequest code arg p act ∧ requestBytes c = code :: arg :: p ∧ ∀ d, guard c d := by
  cases c with
  | unknownRequestCode code arg => exact ⟨code, arg, [], badRequest, rfl, rfl, fun _ => by simpa [isRequest, guard] using h⟩
  | identify | readSettings | writeSettings | arm | endRun | readReport | readCounters | readQuality | mapQuery | mapFetch
  | readAttention | clearAttention | setAttentionEnable => exact ⟨_, _, _, _, rfl, rfl, fun _ => trivial⟩
  | _ => cases h

/-- The stored copies after an input request's payload (R164, R177). -/
theorem storePayload_eq (r : InputRequest) (p : List Byte) (d : Device) : storePayload r p d =
    { d with
      control := if r = .writeSettings then { d.control with staged := parseSettings p, settingsPending := true } else d.control
      link := { d.link with
        causes := if r = .clearAttention then d.link.causes &&& ~~~ causePositions p else d.link.causes
        enables := if r = .setAttentionEnable then causePositions p else d.link.enables } } := by
  cases r <;> rfl

theorem getLsbD_causePositions {p : List Byte} {k : Nat} (hk : k < 10) : (causePositions p).getLsbD k = (payload16 p 0).getLsbD k := by
  simp [causePositions, hk]

/-- The two bytes of an attention payload are all that is read of it. -/
theorem causePositions_take (p : List Byte) {n : Nat} (h : 2 ≤ n) : causePositions (p.take n) = causePositions p := by
  have byte : ∀ k, k < 2 → payloadByte (p.take n) k = payloadByte p k := fun k hk => by
    have : k < n := by omega
    simp [payloadByte, List.getD_eq_getElem?_getD, this]
  simp [causePositions, payload16, byte]

/-- While the payload of an input request is clocked and after it the transaction has no reply (R169). -/
theorem exec_input_reply {s u : State} {t : Transaction} {c : Instr} {code arg : Byte} {p : List Byte} {r : InputRequest}
    (h : awaitsRequest s t) (goes : guard c s.toDevice) (clocks : effect c = clockRequest code arg p (feedPayload r p))
    (next : exec c s = .next u) : ∃ phase, u.link.line = .active { t with phase := phase, reply := [] } := by
  by_cases short : p.length < payloadLength r
  · rw [exec_waits h goes clocks short] at next
    cases next
    exact ⟨_, rfl⟩
  · rw [exec_stores h goes clocks (by omega), goodRequest_awaits h _ _ (by cases r <;> rfl)] at next
    cases next
    exact ⟨_, rfl⟩

/-! ### The status word (R170) -/

theorem statusWord_run (d : Device) : (statusWord d).extractLsb' 14 2 = runCode d.control.run := by
  refine BitVec.eq_of_getLsbD_eq fun i hi => ?_
  rw [BitVec.getLsbD_extractLsb', statusWord]
  interval_cases i <;> simp only [BitVec.getLsbD_append] <;> rfl

theorem statusWord_queue (d : Device) : (statusWord d).extractLsb' 2 6 = BitVec.ofNat 6 d.reports.queue.length := by
  refine BitVec.eq_of_getLsbD_eq fun i hi => ?_
  rw [BitVec.getLsbD_extractLsb', statusWord]
  interval_cases i <;> simp only [BitVec.getLsbD_append] <;> rfl

/-- The single bits of the status word, from LOCK down to ENGINE ACTIVE. -/
theorem statusWord_bits (d : Device) : (statusWord d).getLsbD 13 = lockBit d ∧ (statusWord d).getLsbD 12 = d.ring.lockHeld ∧
    (statusWord d).getLsbD 10 = d.link.requestBad ∧ (statusWord d).getLsbD 9 = mapBusy d ∧
    (statusWord d).getLsbD 8 = engineActive d := by
  simp only [statusWord, BitVec.getLsbD_append]
  simp

/-- The two lowest bits of the status word are 0. -/
theorem statusWord_low (d : Device) : (statusWord d).extractLsb' 0 2 = 0 := by
  refine BitVec.eq_of_getLsbD_eq fun i hi => ?_
  rw [BitVec.getLsbD_extractLsb', statusWord]
  interval_cases i <;> simp only [BitVec.getLsbD_append] <;> rfl

/-! ### The fields of a reply -/

/-- A two-byte field reads back as the value it was formed from. -/
theorem payload16_field16 (v : BitVec 16) (q : List Byte) : payload16 (field16 v ++ q) 0 = v := by
  show v.extractLsb' 8 8 ++ v.extractLsb' 0 8 = v
  rw [BitVec.extractLsb'_append_extractLsb'_eq_extractLsb' (by rfl), BitVec.extractLsb'_eq_self]

end Sys2Proof.Machine

namespace Sys2Proof.Steps

open Sys2Proof.Machine

/-- Settles O1: `step` hands the rest on, and a command's effect is on the part alone. -/
theorem stepTakesFrontCommand : Obligations.StepTakesFrontCommand := by
  refine ⟨fun _ _ _ => rfl, fun c s t h => ?_⟩
  obtain ⟨-, rfl⟩ := exec_next h
  rfl

/-- Settles O2: a counted tick changes nothing that a grant looks at, and the last tick is HOLD_EXPIRY's effect. -/
theorem idleStepTicksTheHold : Obligations.IdleStepTicksTheHold := by
  refine ⟨fun s idle free => ?_, fun s x r idle bus hx hr => ⟨fun short => ?_, fun spent => ?_⟩⟩
  · rw [step_of_idle idle, onDevice_same (by simp [tick, free])]
  · rw [step_of_idle idle, State.onDevice, tick_of_hold hx, tickHold_counts hx hr short,
      arbitrate_of_busWf (bus.congr (by rfl) (by rfl) (by rfl))]
  · have goes : exec .holdExpiry s = .next (s.onDevice (effect .holdExpiry)) := exec_of_guard trivial
    rw [step_of_idle idle, goes, State.onDevice, State.onDevice, tick_of_hold hx, tickHold_expires hx hr spent]
    simp [effect, hx, expireAndGrant]

/-- Settles O3: the reset state is one state, whose fields are the values stated. -/
theorem resetValues : Obligations.ResetValues := by
  refine ⟨rfl, rfl, rfl, ?_, ?_, rfl, rfl, rfl, rfl, rfl, rfl, ?_, ?_, rfl, rfl, rfl, rfl, rfl, rfl, rfl, rfl, rfl, rfl, rfl, rfl⟩
  · decide
  · decide
  · intro x hx
    cases hx
  · intro l hl
    cases hl

/-- Settles O10: after reset no map entry, record, transfer or job exists, and the ring is at its starting values. -/
theorem invariantsHoldAtReset : Obligations.InvariantsHoldAtReset := by
  have bus : BusWf State.reset.toDevice := by
    refine ⟨?_, ?_, fun _ => ⟨rfl, by decide⟩, ?_, ?_⟩
    · intro t ht
      cases ht
    · intro m hm
      cases hm
    · intro claim
      cases claim
    · intro m hm
      cases hm
  refine ⟨mapWf_start 0, rangesWf_reset, bus, ringWf_start 0 rfl rfl (.inl rfl), bus, ?_⟩
  have noRecord : ∀ r, State.reset.delivery.record ≠ some r := fun _ hr => by cases hr
  have noClosing : ∀ r, State.reset.delivery.closing ≠ some r := fun _ hr => by cases hr
  have noTransfer : ∀ t, State.reset.port.transfer ≠ some t := fun _ hr => by cases hr
  exact holdWf_of_released ⟨fun r hr => absurd hr (noRecord r), fun r hr => absurd hr (noClosing r), fun r _ hr => absurd hr (noRecord r)⟩
    ⟨fun t ht => absurd ht (noTransfer t), fun t ht => absurd ht (noTransfer t), fun t ht => absurd ht (noTransfer t)⟩ rfl
    fun t ht => absurd ht (noTransfer t)

/-- Settles O14: each command's first tests, in their order. -/
theorem eventsThatCannotHappenStop : Obligations.EventsThatCannotHappenStop := by
  refine ⟨fun s low => ?_, fun s high => ?_, fun s code arg h1 h13 => ?_, fun s w a n off => ?_, fun s w a n align fits busy => ?_,
    fun s b e none => ?_, fun s b none => ?_, fun s l free => ?_, fun s l m u bus burner port forwarding write read => ?_,
    fun s l m bus engine length => ?_⟩
  · cases h : s.link.line <;> simp_all [exec, execTransactionBegin]
  · simp [exec, execTransactionEnd, high]
  · simp [exec, execUnknownRequestCode, knownCode, h1, h13]
  · have misfit : transferFits a n = false := Bool.eq_false_iff.2 fun fits =>
      off (by
        obtain ⟨align, inside⟩ := Bool.and_eq_true_iff.1 fits
        exact ⟨beq_iff_eq.1 align, of_decide_eq_true inside⟩)
    simp [exec, execBurnerTransferStart, misfit]
  · have fit : transferFits a n = true := by simp [transferFits, Config.memorySize, align, fits]
    simp [exec, execBurnerTransferStart, fit, Option.isSome_iff_ne_none, busy]
  · have due : writeBeatDue s.toDevice = false := by
      unfold writeBeatDue
      cases h : s.port.transfer with
      | none => rfl
      | some u => simpa using fun write forwarding => none u h write forwarding
    simp [exec, execWriteBeatAccepted, due]
  · have due : readBeatDue s.toDevice = false := by
      unfold readBeatDue
      cases h : s.port.transfer with
      | none => rfl
      | some u => simpa using fun write forwarding => none u h write forwarding
    simp [exec, execReadBeatData, due]
  · simp [exec, execMemoryTransferComplete, free]
  · have outstanding : beatsOutstanding m s.toDevice = true := by
      unfold beatsOutstanding
      cases kind : u.write <;> simp_all
    simp [exec, execMemoryTransferComplete, bus, outstanding]
  · have passed : beatsOutstanding m s.toDevice = false := by simp [beatsOutstanding, engine]
    have wrong : l.length ≠ fetchedBeats m := by
      cases kind : m.write <;> simp_all [fetchedBeats]
    simp [exec, execMemoryTransferComplete, bus, passed, wrong]

/-- Settles O15: the clocking looks at the line and the phase before it looks at the request. -/
theorem requestsActOnlyAtTheirMoment : Obligations.RequestsActOnlyAtTheirMoment := by
  have ignored : ∀ (c : Instr) (s : State), isRequest c = true →
      (∀ code arg p act, clockRequest code arg p act s.toDevice = s.toDevice) → exec c s = .next s := fun c s h same => by
    obtain ⟨code, arg, p, act, clocks, -, goes⟩ := effect_request h
    rw [exec_of_guard (goes _), onDevice_same (by rw [clocks]; exact same code arg p act)]
  refine ⟨fun c s h high => ignored c s h fun _ _ _ _ => by simp [clockRequest, high],
    fun c s h low => ignored c s h fun _ _ _ _ => by simp [clockRequest, low],
    fun c s t h line done => ignored c s h fun _ _ _ _ => by rcases done with done | done <;> simp [clockRequest, line, done],
    fun c s t r got p h line collecting bytes => ?_⟩
  obtain ⟨code, arg, payload, act, clocks, whole, goes⟩ := effect_request h
  have fed : exec c s = .next { s with toDevice := feedPayload r p s.toDevice } := by
    rw [exec_of_guard (goes _), State.onDevice, clocks]
    simp [clockRequest, line, collecting, bytes, whole]
  rw [fed]
  refine ⟨fun short => ?_, fun full => ?_⟩
  · rw [feedPayload, if_pos short]
    simp [putReply, line, setLine]
  · have two : 2 ≤ payloadLength r := by cases r <;> simp [payloadLength, Config.settingsLength, Config.attentionLength]
    have take : r = .writeSettings → p.take (payloadLength r) = p.take 56 := fun settings => by rw [settings]; rfl
    refine ⟨if r = .clearAttention then s.link.causes &&& ~~~ causePositions p else s.link.causes,
      if r = .setAttentionEnable then causePositions p else s.link.enables, ?_, fun k hk => ?_, fun k hk => ?_⟩
    · rw [feedPayload, if_neg (by omega), storePayload_eq, causePositions_take p two]
      have settings : (if r = .writeSettings then
            { s.control with staged := parseSettings (p.take (payloadLength r)), settingsPending := true } else s.control) =
          if r = .writeSettings then { s.control with staged := parseSettings (p.take 56), settingsPending := true }
          else s.control := by
        split
        · next stored => rw [take stored]
        · rfl
      rw [settings]
      simp only [goodRequest, putReply, line, setLine, setRequestBad]
    · rw [← getLsbD_causePositions hk]
      by_cases clear : r = .clearAttention <;> simp [clear, hk]
    · by_cases enable : r = .setAttentionEnable <;> simp [enable, getLsbD_causePositions hk]

/-- Settles O13: the status word field by field, the end by whether payload is due, and LDO by the reply. -/
theorem transactionsBeginAndEnd : Obligations.TransactionsBeginAndEnd := by
  refine ⟨fun s high room => ⟨statusWord s.toDevice, exec_of_guard (c := .transactionBegin) high, ?_⟩, fun s low => ?_, fun s k none => ?_,
    fun s x high low line status => ?_, fun s t x code arg k h goes => ?_, fun s t x arg p k h goes => ?_⟩
  · obtain ⟨lock, held, bad, busy, active⟩ := statusWord_bits s.toDevice
    rw [statusWord_run, lock, held, bad, busy, active, statusWord_attn, atnAsserted_iff, statusWord_queue]
    refine ⟨?_, ?_, rfl, Iff.rfl, rfl, ?_, ?_, ?_, statusWord_low _⟩
    · cases s.control.run <;> rfl
    · simp [lockBit]
    · cases h : s.link.holder <;> simp [mapBusy, h]
    · cases h : s.engine.job <;> simp [engineActive, h]
    · simp only [BitVec.toNat_ofNat]
      omega
  · rw [exec_of_guard (c := .transactionEnd) low]
    have short : shortInput s.link.line = true ↔ collects s := by
      unfold shortInput collects
      split
      · simp_all
      · next other =>
        simp only [Bool.false_eq_true, false_iff]
        rintro ⟨t, r, got, line, phase⟩
        exact other t.status t.lockFell r got t.reply (by rw [line, ← phase])
    refine ⟨fun due => ?_, fun done => ?_⟩
    · simp [State.onDevice, effect, endTransaction, short.2 due, setRequestBad, setLine]
    · simp [State.onDevice, effect, endTransaction, mt short.1 done, setLine]
  · rcases none with line | line <;> simp [line]
  · obtain ⟨byte0, byte1⟩ := ldoByte_status status
    refine ⟨by simp [line, byte0], by simp [line, byte1], fun k b hb => ?_, fun k past => ?_⟩
    · simp [line, List.getD_eq_getElem?_getD, hb]
    · simp [line, List.getD_eq_getElem?_getD, List.getElem?_eq_none past]
  · rw [exec_bad (c := .unknownRequestCode code arg) h (exec_next goes).1 ⟨_, rfl, rfl⟩] at goes
    cases goes
    rfl
  · have reply : ∃ phase, t.link.line = .active { x with phase := phase, reply := [] } := by
      rcases goes with goes | goes | goes
      · exact exec_input_reply (c := .writeSettings arg p) h trivial rfl goes
      · exact exec_input_reply (c := .clearAttention arg p) h trivial rfl goes
      · exact exec_input_reply (c := .setAttentionEnable arg p) h trivial rfl goes
    obtain ⟨phase, line⟩ := reply
    simp [line]

/-- Settles O16: the request's reply by its place in the table, and a code that is not in it. -/
theorem identifyQualityAndUnknownCodes : Obligations.IdentifyQualityAndUnknownCodes := by
  refine ⟨fun arg s t h => exec_replies (c := .identify arg) h trivial ⟨_, rfl, rfl⟩, fun code arg s t h unknown => ?_, fun arg s t h => ?_⟩
  · have goes : knownCode code = false := by
      simp only [knownCode, Bool.and_eq_false_iff, decide_eq_false_iff_not]
      omega
    exact exec_bad (c := .unknownRequestCode code arg) h goes ⟨_, rfl, rfl⟩
  · refine ⟨qualityBytes s.toDevice, rfl, rfl, rfl, rfl, rfl, payload32_field32 _ [], ?_⟩
    rw [exec_awaits (c := .readQuality arg) h trivial rfl, readQuality, goodRequest_awaits h _ _ (by rfl)]
    rfl

/-- Settles O51: both checks over nine bytes, evaluated. -/
theorem checkValues : Obligations.CheckValues := by
  constructor
  · simp [crc16, byteBits, crc16Bit, BitVec.msb_eq_decide]
  · simp [crc32, byteBits, crc32Bit, BitVec.msb_eq_decide]

end Sys2Proof.Steps
end

section
/-! PROOFS. The requests of the link that store and reply: settings, reports, the map query and attention (R173 to R177), the report
queue (R154, R155) and a report's counts (R146). -/

namespace Sys2Proof.Machine

/-! ### Fields within a reply (R169) -/

/-- A two-byte field joined again. -/
theorem join_field16 (v : BitVec 16) : v.extractLsb' 8 8 ++ v.extractLsb' 0 8 = v := payload16_field16 v []

/-- A four-byte field joined again. -/
theorem join_field32 (v : BitVec 32) :
    (v.extractLsb' 24 8 ++ v.extractLsb' 16 8 : BitVec 16) ++ (v.extractLsb' 8 8 ++ v.extractLsb' 0 8 : BitVec 16) = v := payload32_field32 v []

/-- The byte of the slot flags (section 10.4). -/
theorem toNat_flagsByte (f : SlotFlags) : (flagsByte f).toNat = (if f.lossy then 1 else 0) + (if f.stale then 2 else 0)
    + (if f.seek then 4 else 0) + (if f.overtake then 8 else 0) + (if f.overwritten then 16 else 0) := by
  obtain ⟨overwritten, overtake, seek, stale, lossy⟩ := f
  revert overwritten overtake seek stale lossy
  decide

/-- The byte of the causes of line damage (section 10.6). -/
theorem toNat_causesByte (c : Causes) : (causesByte c).toNat = (if c.check then 1 else 0) + (if c.deck then 2 else 0)
    + (if c.range then 4 else 0) + (if c.number then 8 else 0) + (if c.torn then 16 else 0)
    + (if c.rewrite then 32 else 0) + (if c.missing then 64 else 0) := by
  obtain ⟨check, deck, range, number, torn, rewrite, missing⟩ := c
  revert check deck range number torn rewrite missing
  decide

/-! ### The settings copies (R163, R173, R181) -/

/-- The two bytes of a two-byte field. -/
theorem extractLsb'_payload16 (p : List Byte) (k : Nat) :
    (payload16 p k).extractLsb' 8 8 = p.getD k 0 ∧ (payload16 p k).extractLsb' 0 8 = p.getD (k + 1) 0 :=
  ⟨BitVec.extractLsb'_append_eq_left, BitVec.extractLsb'_append_eq_right⟩

theorem field16_payload16 (p : List Byte) (k : Nat) : field16 (payload16 p k) = [p.getD k 0, p.getD (k + 1) 0] := by
  rw [field16, (extractLsb'_payload16 p k).1, (extractLsb'_payload16 p k).2]

theorem field32_payload32 (p : List Byte) (k : Nat) :
    field32 (payload32 p k) = [p.getD k 0, p.getD (k + 1) 0, p.getD (k + 2) 0, p.getD (k + 3) 0] := by
  have upper : field32 (payload32 p k) = field16 (payload16 p k) ++ field16 (payload16 p (k + 2)) := by
    rw [field32, payload32, BitVec.extractLsb'_append_eq_of_le (by omega), BitVec.extractLsb'_append_eq_of_le (by omega),
      BitVec.extractLsb'_append_eq_of_add_le (by omega), BitVec.extractLsb'_append_eq_of_add_le (by omega)]
    rfl
  rw [upper, field16_payload16, field16_payload16]
  rfl

theorem nat16_toNat (v : BitVec 16) : nat16 v.toNat = field16 v := by rw [nat16, BitVec.ofNat_toNat, BitVec.setWidth_eq]

theorem nat32_toNat (v : BitVec 32) : nat32 v.toNat = field32 v := by rw [nat32, BitVec.ofNat_toNat, BitVec.setWidth_eq]

theorem byteOf_toNat (v : Byte) : byteOf v.toNat = v := by rw [byteOf, BitVec.ofNat_toNat, BitVec.setWidth_eq]

theorem toNat_byteOf {n : Nat} (h : n < 256) : (byteOf n).toNat = n := by
  rw [byteOf, BitVec.toNat_ofNat]
  omega

/-- The value of a two-byte field from its bytes. -/
theorem toNat_of_bytes (v : BitVec 16) : 256 * (v.extractLsb' 8 8).toNat + (v.extractLsb' 0 8).toNat = v.toNat := by
  have := v.isLt
  simp only [BitVec.extractLsb'_toNat, Nat.shiftRight_eq_div_pow]
  omega

theorem toNat_payload16 (p : List Byte) (k : Nat) :
    (payload16 p k).toNat = 256 * (p.getD k 0).toNat + (p.getD (k + 1) 0).toNat := by
  rw [← toNat_of_bytes, (extractLsb'_payload16 p k).1, (extractLsb'_payload16 p k).2]

/-- A payload of n bytes, byte by byte. -/
theorem bytes_of_length {p : List Byte} {n : Nat} (h : p.length = n) : p = (List.range n).map fun k => p.getD k 0 := by
  refine List.ext_getElem (by simp [h]) fun k hk _ => ?_
  simp [List.getD_eq_getElem?_getD, hk]

/-- The staged copy reads back as it was written, but for byte 41 (R173, R181). -/
theorem stagedBytes_parseSettings {p : List Byte} (h : p.length = 56) (refusal : Nat) :
    stagedBytes (parseSettings p) refusal = p.set 41 (byteOf refusal) := by
  have bytes := bytes_of_length h
  simp only [List.range, List.range.loop, List.map_cons, List.map_nil] at bytes
  refine Eq.trans ?_ (congrArg (fun l => l.set 41 (byteOf refusal)) bytes).symm
  unfold stagedBytes parseSettings payloadByte
  simp only [field16_payload16, field32_payload32, List.cons_append, List.nil_append, List.set_cons_succ, List.set_cons_zero]

/-- Byte 5 of the active copy is the staged byte's two lowest bits (R181). -/
theorem modesByte_stagedGeometry (s : Staged) : modesByte (stagedGeometry s) = s.modes &&& 3 := by
  refine BitVec.eq_of_getLsbD_eq fun i hi => ?_
  simp only [modesByte, stagedGeometry, BitVec.getLsbD_and]
  cases h0 : s.modes.getLsbD 0 <;> cases h1 : s.modes.getLsbD 1 <;> interval_cases i <;> simp [-BitVec.getLsbD_eq_getElem, h0, h1]

/-- Bytes 21 to 41 of the active copy, each field clamped (R163, R181). -/
def clampedBytes (p : List Byte) : List Byte :=
  byteOf (max 1 (min (p.getD 21 0).toNat 8)) :: (nat16 (min (payload16 p 22).toNat 1023) ++ nat16 (min (payload16 p 24).toNat 1023) ++
    [byteOf (min (p.getD 26 0).toNat 16), p.getD 27 0, p.getD 28 0, p.getD 29 0, byteOf (min (p.getD 30 0).toNat 7),
      if p.getD 31 0 != 0 then 1 else 0, byteOf (min (p.getD 32 0).toNat 15), byteOf (min (p.getD 33 0).toNat 15),
      byteOf (min (p.getD 34 0).toNat 15), byteOf (min (p.getD 35 0).toNat 15), byteOf (min (p.getD 36 0).toNat 15),
      byteOf (min (p.getD 37 0).toNat 15), byteOf (min (p.getD 38 0).toNat 15), byteOf (max 1 (p.getD 39 0).toNat),
      byteOf (min (p.getD 40 0).toNat 7), 0])

/-- The active copy as ARM takes it: the payload's geometry with byte 5 masked, the clamped fields, and its thresholds (R163, R181). -/
def clampedPayload (p : List Byte) : List Byte :=
  ((List.range 21).map fun k => if k = 5 then p.getD 5 0 &&& 3 else p.getD k 0) ++
    (clampedBytes p ++ (List.range 14).map fun k => p.getD (42 + k) 0)

theorem activeBytes_parseSettings (p : List Byte) :
    activeBytes (stagedGeometry (parseSettings p)) (clampRepair (parseSettings p)) = clampedPayload p := by
  unfold activeBytes
  rw [modesByte_stagedGeometry]
  unfold stagedGeometry clampRepair parseSettings payloadByte clampedPayload clampedBytes
  simp only [nat16_toNat, nat32_toNat, byteOf_toNat, field16_payload16, field32_payload32, List.cons_append, List.nil_append,
    List.append_assoc, List.range, List.range.loop, List.map_cons, List.map_nil]
  rfl

theorem clampedBytes_length (p : List Byte) : (clampedBytes p).length = 21 := rfl

theorem clampedPayload_length (p : List Byte) : (clampedPayload p).length = 56 := by
  simp [clampedPayload, clampedBytes_length]

theorem clampedPayload_head (p : List Byte) {k : Nat} (hk : k < 21) :
    (clampedPayload p).getD k 0 = if k = 5 then p.getD 5 0 &&& 3 else p.getD k 0 := by
  rw [clampedPayload, List.getD_append _ _ _ _ (by simpa using hk)]
  simp only [List.getD_eq_getElem?_getD, List.getElem?_map, List.getElem?_range hk, Option.map_some, Option.getD_some]

theorem clampedPayload_clamped (p : List Byte) {k : Nat} (low : 21 ≤ k) (high : k < 42) :
    (clampedPayload p).getD k 0 = (clampedBytes p).getD (k - 21) 0 := by
  rw [clampedPayload, List.getD_append_right _ _ _ _ (by simpa using low),
    List.getD_append _ _ _ _ (by simp [clampedBytes_length]; omega)]
  simp

theorem clampedPayload_tail (p : List Byte) {k : Nat} (hk : k < 14) : (clampedPayload p).getD (42 + k) 0 = p.getD (42 + k) 0 := by
  rw [clampedPayload, List.getD_append_right _ _ _ _ (by simp; omega),
    List.getD_append_right _ _ _ _ (by simp [clampedBytes_length]; omega)]
  simp only [List.length_map, List.length_range, clampedBytes_length, show 42 + k - 21 - 21 = k by omega]
  simp only [List.getD_eq_getElem?_getD, List.getElem?_map, List.getElem?_range hk, Option.map_some, Option.getD_some]

/-- A threshold's two bytes. -/
theorem toNat_nat16_min (p : List Byte) (k : Nat) :
    256 * ((nat16 (min (payload16 p k).toNat 1023)).getD 0 0).toNat + ((nat16 (min (payload16 p k).toNat 1023)).getD 1 0).toNat =
      min (256 * (p.getD k 0).toNat + (p.getD (k + 1) 0).toNat) 1023 := by
  refine (toNat_of_bytes (BitVec.ofNat 16 (min (payload16 p k).toNat 1023))).trans ?_
  rw [BitVec.toNat_ofNat, toNat_payload16]
  omega

/-- The clamped fields by value (R163). -/
theorem clampedBytes_fields (p : List Byte) :
    ((clampedBytes p).getD 0 0).toNat = max 1 (min (p.getD 21 0).toNat 8) ∧
    256 * ((clampedBytes p).getD 1 0).toNat + ((clampedBytes p).getD 2 0).toNat =
      min (256 * (p.getD 22 0).toNat + (p.getD 23 0).toNat) 1023 ∧
    256 * ((clampedBytes p).getD 3 0).toNat + ((clampedBytes p).getD 4 0).toNat =
      min (256 * (p.getD 24 0).toNat + (p.getD 25 0).toNat) 1023 ∧
    ((clampedBytes p).getD 5 0).toNat = min (p.getD 26 0).toNat 16 ∧ ((clampedBytes p).getD 9 0).toNat = min (p.getD 30 0).toNat 7 ∧
    (clampedBytes p).getD 10 0 = (if p.getD 31 0 = 0 then 0 else 1) ∧
    ((clampedBytes p).getD 11 0).toNat = min (p.getD 32 0).toNat 15 ∧
    (∀ k, k < 6 → ((clampedBytes p).getD (12 + k) 0).toNat = min (p.getD (33 + k) 0).toNat 15) ∧
    ((clampedBytes p).getD 18 0).toNat = max 1 (p.getD 39 0).toNat ∧ ((clampedBytes p).getD 19 0).toNat = min (p.getD 40 0).toNat 7 := by
  refine ⟨toNat_byteOf (by omega), toNat_nat16_min p 22, toNat_nat16_min p 24, toNat_byteOf (by omega), toNat_byteOf (by omega), ?_,
    toNat_byteOf (by omega), fun k hk => ?_, toNat_byteOf (by omega), toNat_byteOf (by omega)⟩
  · show (if p.getD 31 0 != 0 then (1 : Byte) else 0) = _
    simp only [bne_iff_ne, ne_eq, ite_not]
  · interval_cases k <;> exact toNat_byteOf (by omega)

/-! ### The report record (section 10.4) -/

/-- Byte 0 of a report: valid, drain started, end kind, quality. -/
theorem toNat_reportHead {q : Nat} (hq : q ≤ 7) (k : EndKind) (started : Bool) :
    ((0 : BitVec 1) ++ BitVec.ofNat 3 q ++ endKindCode k ++ BitVec.ofBool started ++ (1 : BitVec 1)).toNat =
      1 + (if started then 2 else 0) + 4 * (endKindCode k).toNat + 16 * q := by
  interval_cases q <;> cases k <;> cases started <;> rfl

theorem reportBytes_valid (r : FrameReport) : ((reportBytes r).getD 0 0).getLsbD 0 = true := by
  show ((0 : BitVec 1) ++ BitVec.ofNat 3 r.quality ++ endKindCode r.endKind ++ BitVec.ofBool r.drainStarted ++ (1 : BitVec 1)).getLsbD 0 = true
  simp only [BitVec.getLsbD_append]
  rfl

/-! ### READ REPORT and REPORT_POP (R174) -/

section
variable {s : State} {t : Transaction}

theorem exec_readReport_empty (h : awaitsRequest s t) (none : s.reports.queue = []) (arg : Byte) :
    exec (.readReport arg) s = .next (afterTake s t false .taken (List.replicate 36 0)) :=
  exec_replies (c := .readReport arg) h trivial ⟨_, rfl, by simp [readReport, reloaded, none]⟩

theorem exec_readReport_head (h : awaitsRequest s t) {r : FrameReport} {rest : List FrameReport} (head : s.reports.queue = r :: rest)
    (arg : Byte) : exec (.readReport arg) s = .next (afterTake s t false .reporting (reportBytes r)) := by
  have taken : readReport (reloaded t s) = setRequestBad false (putReply .reporting (reportBytes r) (reloaded t s)) := by
    simp [readReport, reloaded, head]
  rw [exec_awaits (c := .readReport arg) h trivial rfl, taken, putReply_reloaded h _ _ _ (by rfl)]
  rfl

/-- The pop in the transaction that returned the record. -/
theorem popReport_reporting {d : Device} (line : d.link.line = .active t) (phase : t.phase = .reporting) :
    popReport d = { d with reports := { d.reports with queue := d.reports.queue.tail },
                           link := { d.link with line := .active { t with phase := .taken } } } := by
  simp [popReport, line, phase, putReply, setLine]

/-- A pop without a returned record. -/
theorem popReport_other {d : Device} (h : ∀ t, d.link.line = .active t → t.phase ≠ .reporting) : popReport d = d := by
  unfold popReport
  split
  · next t line =>
    split
    · next reporting => exact absurd reporting (h t line)
    all_goals rfl
  all_goals rfl

end

/-! ### The map query (R79 to R81, R176) -/

/-- Byte k of block j in a run of blocks of one length. -/
theorem getD_flatMap_block {α : Type} {f : α → List Byte} {n : Nat} (hf : ∀ x, (f x).length = n) {l : List α} {j k : Nat} {x : α}
    (hx : l[j]? = some x) (hk : k < n) (q : List Byte) : (l.flatMap f ++ q).getD (n * j + k) 0 = (f x).getD k 0 := by
  induction l generalizing j with
  | nil => simp at hx
  | cons y l ih =>
    rw [List.flatMap_cons, List.append_assoc]
    cases j with
    | zero =>
      obtain rfl : y = x := by simpa using hx
      rw [Nat.mul_zero, Nat.zero_add, List.getD_append _ _ _ _ (by rw [hf]; exact hk)]
    | succ j =>
      rw [List.getD_append_right _ _ _ _ (by rw [hf, Nat.mul_succ]; omega), ← ih (by simpa using hx)]
      congr 1
      rw [hf, Nat.mul_succ]
      omega

theorem length_flatMap_block {α : Type} {f : α → List Byte} {n : Nat} (hf : ∀ x, (f x).length = n) (l : List α) :
    (l.flatMap f).length = n * l.length := by
  induction l with
  | nil => simp
  | cons y l ih => rw [List.flatMap_cons, List.length_append, ih, hf, List.length_cons, Nat.mul_succ, Nat.add_comm]

theorem spanBytes_length (p : Span) : (spanBytes p).length = 12 := by simp [spanBytes, nat16, field16]

/-- The header of a snapshot (section 10.6). -/
def snapshotHead (n : Snapshot) : List Byte :=
  [1, byteOf n.slot, slotStateCode n.state, flagsByte n.flags] ++ field32 n.frame ++ [byteOf n.spans.length, 0] ++ nat16 n.free

theorem snapshotHead_length (n : Snapshot) : (snapshotHead n).length = 12 := by simp [snapshotHead, nat16, field16]

theorem snapshotBytes_eq (n : Snapshot) : snapshotBytes n =
    snapshotHead n ++ (n.spans.flatMap spanBytes ++ List.replicate (288 - (n.spans.flatMap spanBytes).length) 0) := by
  simp [snapshotBytes, snapshotHead]

theorem snapshotBytes_length {n : Snapshot} (h : n.spans.length ≤ 24) : (snapshotBytes n).length = 300 := by
  rw [snapshotBytes_eq]
  simp only [List.length_append, snapshotHead_length, length_flatMap_block spanBytes_length, List.length_replicate]
  omega

/-- Byte k of the header. -/
theorem snapshotBytes_getD_head (n : Snapshot) {k : Nat} (hk : k < 12) : (snapshotBytes n).getD k 0 = (snapshotHead n).getD k 0 := by
  rw [snapshotBytes_eq, List.getD_append _ _ _ _ (by rw [snapshotHead_length]; exact hk)]

/-- Byte k of span j's entry. -/
theorem snapshotBytes_getD_entry {n : Snapshot} {j k : Nat} {p : Span} (hp : n.spans[j]? = some p) (hk : k < 12) :
    (snapshotBytes n).getD (12 + 12 * j + k) 0 = (spanBytes p).getD k 0 := by
  rw [snapshotBytes_eq, List.getD_append_right _ _ _ _ (by rw [snapshotHead_length]; omega), snapshotHead_length,
    show 12 + 12 * j + k - 12 = 12 * j + k by omega]
  exact getD_flatMap_block spanBytes_length hp hk _

/-- Zeros come after the last entry. -/
theorem snapshotBytes_getD_past {n : Snapshot} {k : Nat} (hk : 12 + 12 * n.spans.length ≤ k) : (snapshotBytes n).getD k 0 = 0 := by
  rw [snapshotBytes_eq, List.getD_append_right _ _ _ _ (by rw [snapshotHead_length]; omega),
    List.getD_append_right _ _ _ _ (by rw [length_flatMap_block spanBytes_length, snapshotHead_length]; omega)]
  simp only [List.getD_eq_getElem?_getD, List.getElem?_replicate]
  split <;> rfl

/-- The fields of a span's entry (section 10.6). -/
theorem spanBytes_fields (p : Span) : payload16 (spanBytes p) 0 = BitVec.ofNat 16 p.first ∧
    payload16 (spanBytes p) 2 = BitVec.ofNat 16 p.last ∧ (spanBytes p).getD 4 0 = causesByte p.causes ∧
    (spanBytes p).getD 5 0 = spanStateCode p.state ∧ payload16 (spanBytes p) 6 = BitVec.ofNat 16 p.absorbed ∧
    payload16 (spanBytes p) 8 = BitVec.ofNat 16 p.progress ∧
    payload16 (spanBytes p) 10 = BitVec.ofNat 16 (talliesSum p.tallies) := by
  simp [payload16, payloadByte, spanBytes, nat16, field16, join_field16]

/-- The fields of the header (section 10.6). -/
theorem snapshotBytes_header (n : Snapshot) : (snapshotBytes n).getD 0 0 = 1 ∧ (snapshotBytes n).getD 1 0 = BitVec.ofNat 8 n.slot ∧
    (snapshotBytes n).getD 2 0 = slotStateCode n.state ∧ (snapshotBytes n).getD 3 0 = flagsByte n.flags ∧
    payload32 (snapshotBytes n) 4 = n.frame ∧ (snapshotBytes n).getD 8 0 = BitVec.ofNat 8 n.spans.length ∧
    (snapshotBytes n).getD 9 0 = 0 ∧ payload16 (snapshotBytes n) 10 = BitVec.ofNat 16 n.free := by
  simp (disch := decide) only [payload32, payload16, payloadByte, Nat.reduceAdd, snapshotBytes_getD_head]
  simpa [snapshotHead, nat16, byteOf, field16, field32, join_field16] using join_field32 n.frame

theorem payload16_entry {n : Snapshot} {j k : Nat} {p : Span} (hp : n.spans[j]? = some p) (hk : k + 1 < 12) :
    payload16 (snapshotBytes n) (12 + 12 * j + k) = payload16 (spanBytes p) k := by
  rw [payload16, payload16, payloadByte, payloadByte, payloadByte, payloadByte, snapshotBytes_getD_entry hp (by omega),
    Nat.add_assoc, snapshotBytes_getD_entry hp hk]

/-! ### A report's counts (R146) -/

theorem sum_map_sub_add {l : List Span} (f g : Span → Nat) (h : ∀ p ∈ l, g p ≤ f p) :
    (l.map fun p => f p - g p).sum + (l.map g).sum = (l.map f).sum := by
  induction l with
  | nil => rfl
  | cons p l ih =>
    have head := h p List.mem_cons_self
    have rest := ih fun q hq => h q (List.mem_cons_of_mem _ hq)
    simp only [List.map_cons, List.sum_cons]
    omega

theorem sumOver_talliesSum (l : List Span) : sumOver (fun p => talliesSum p.tallies) l =
    sumOver (fun p => p.tallies.g1) l + sumOver (fun p => p.tallies.g2) l + sumOver (fun p => p.tallies.g3) l
      + sumOver (fun p => p.tallies.g4) l + sumOver (fun p => p.tallies.g6) l := by
  induction l with
  | nil => rfl
  | cons p l ih =>
    simp only [sumOver, List.map_cons, List.sum_cons, talliesSum] at ih ⊢
    omega

/-- The six grade counts add up to the lines of the spans, or to the lines counted if they are more. -/
theorem gradeCounts_sum (l : List Span) (redirected damaged : Nat) :
    (gradeCounts l redirected damaged).g1 + (gradeCounts l redirected damaged).g2 + (gradeCounts l redirected damaged).g3
      + (gradeCounts l redirected damaged).g4 + (gradeCounts l redirected damaged).g5 + (gradeCounts l redirected damaged).g6 =
    max (sumOver spanLength l) (sumOver (fun p => talliesSum p.tallies) l + redirected + damaged) := by
  simp only [gradeCounts, sumOver_talliesSum]
  omega

/-- Lines damaged and lines absorbed are the lines of the spans. -/
theorem buildReport_lines {d : Device} {e : Ending} (h : SpanListWf (spansOf d e.slot)) :
    (buildReport d e).damaged + (buildReport d e).absorbed = sumOver spanLength (spansOf d e.slot) :=
  sum_map_sub_add spanLength (fun p => p.absorbed) fun p hp => by
    have := h.2.1 p hp
    simp only [spanLength]
    omega

end Sys2Proof.Machine

namespace Sys2Proof.Requests

open Sys2Proof.Machine

/-- Settles O17: the requests by their argument, and both copies byte by byte. -/
theorem settingsReadBack : Obligations.SettingsReadBack := by
  refine ⟨fun arg s t h => ⟨?_, ?_, fun other active => ?_⟩, fun p refusal full => stagedBytes_parseSettings full refusal,
    fun p _ => ⟨_, rfl, ?_⟩⟩
  · rintro rfl
    exact exec_replies (c := .readSettings 0) h trivial ⟨_, rfl, rfl⟩
  · rintro rfl
    exact exec_replies (c := .readSettings 1) h trivial ⟨_, rfl, rfl⟩
  · exact exec_bad (c := .readSettings arg) h trivial ⟨_, rfl, by rw [readSettings, if_neg other, if_neg active]⟩
  · rw [activeBytes_parseSettings]
    obtain ⟨reach, still, move, weight, urgency, precedence, tag, weights, recovery, alarm⟩ := clampedBytes_fields p
    refine ⟨clampedPayload_length p, fun k hk five kept => ?_, clampedPayload_head p (by omega), ?_⟩
    · rcases kept with low | high | rfl | rfl | rfl
      · rw [clampedPayload_head p low, if_neg five]
      · obtain ⟨j, rfl⟩ := Nat.exists_eq_add_of_le high
        exact clampedPayload_tail p (by omega)
      · exact clampedPayload_clamped p (k := 27) (by omega) (by omega)
      · exact clampedPayload_clamped p (k := 28) (by omega) (by omega)
      · exact clampedPayload_clamped p (k := 29) (by omega) (by omega)
    · simp (disch := decide) only [clampedPayload_clamped, Nat.reduceSub]
      refine ⟨reach, still, move, weight, urgency, precedence, tag, fun k low high => ?_, recovery, alarm, rfl⟩
      obtain ⟨j, rfl⟩ := Nat.exists_eq_add_of_le low
      rw [clampedPayload_clamped p (by omega) (by omega), show 33 + j - 21 = 12 + j by omega]
      exact weights j (by omega)

/-- Settles O18: 56 bytes make the payload complete, fewer leave it waiting. -/
theorem writeSettingsStores : Obligations.WriteSettingsStores := by
  intro arg p s t h
  refine ⟨fun full => ?_, fun short => exec_waits (c := .writeSettings arg p) h trivial rfl short⟩
  rw [exec_stores (c := .writeSettings arg p) h trivial rfl full, goodRequest_awaits h _ _ (by rfl)]
  rfl

/-- Settles O22: the head's bytes are the reply, and the pop looks for the phase that only READ REPORT leaves. -/
theorem reportsAreReadAndPopped : Obligations.ReportsAreReadAndPopped := by
  refine ⟨fun arg s t h => ⟨fun none => exec_readReport_empty h none arg,
    fun r rest head => ⟨reportBytes_valid r, exec_readReport_head h head arg⟩⟩, fun s t line phase => ⟨?_, ?_⟩, fun s other => ?_⟩
  · have goes : exec .reportPop s = .next (s.onDevice popReport) := exec_of_guard (c := .reportPop) trivial
    rw [goes, State.onDevice, popReport_reporting line phase]
  · have low : s.link.line ≠ .high := by simp [line]
    have done : shortInput s.link.line = false := by
      obtain ⟨status, lockFell, phase', reply⟩ := t
      cases phase
      rw [line]
      rfl
    rw [exec_of_guard (c := .transactionEnd) low]
    simp [State.onDevice, effect, endTransaction, done, setLine]
  · have goes : exec .reportPop s = .next (s.onDevice popReport) := exec_of_guard (c := .reportPop) trivial
    rw [goes, onDevice_same (popReport_other other)]

/-- Settles O23: each field's bytes stand where `reportBytes` puts them. -/
theorem reportRecordLayout : Obligations.ReportRecordLayout := by
  intro r quality ended
  refine ⟨_, rfl, by simp [reportBytes, nat16, field16], ?_, toNat_flagsByte r.flags, ?_⟩
  · refine (toNat_reportHead quality r.endKind r.drainStarted).trans ?_
    cases r.endKind <;> rfl
  · simpa [payload32, payload16, payloadByte, reportBytes, nat16, byteOf, field16, field32, join_field16] using
      And.intro (join_field32 r.frame) (join_field32 r.signature)

/-- Settles O27: `offerReport` asks for the queue's length, and raises by whether it was empty. -/
theorem queueTakesOrDropsReports : Obligations.QueueTakesOrDropsReports := by
  intro r d
  refine ⟨fun room => ?_, fun full => ?_⟩
  · by_cases empty : d.reports.queue = []
    · simp [offerReport, Config.queueDepth, empty, raise, causeBit]
    · simp [offerReport, Config.queueDepth, room, empty]
  · simp [offerReport, Config.queueDepth, full.not_gt, raise, causeBit]

/-- Settles O28: grade 6 takes the remainder that the other counts leave. -/
theorem gradeCountsAddUp : Obligations.GradeCountsAddUp := by
  intro d e wf
  have lines := buildReport_lines wf
  have grades := gradeCounts_sum (spansOf d e.slot) e.redirected e.damaged
  refine ⟨_, _, _, rfl, rfl, rfl, lines, grades, fun fits => ?_⟩
  rw [lines]
  exact grades.trans (max_eq_left fits)

/-- Settles O29: the holder by the run and the slot, the copy as the map stands, and the reply as header, entries and zeros. -/
theorem mapQueriesAreAnswered : Obligations.MapQueriesAreAnswered := by
  refine ⟨fun arg s t h => ?_, fun s n gathering => ⟨_, rfl, ?_⟩, fun s none => ?_, fun arg s t h => ?_⟩
  · refine ⟨if s.control.run = .off ∨ s.control.geometry.slots ≤ arg.toNat then .ready (emptySnapshot arg.toNat s.toDevice)
      else .gathering arg.toNat, ?_, fun run inside => ?_, fun empty => ?_⟩
    · rw [exec_awaits (c := .mapQuery arg) h trivial rfl, queryMap]
      have holder : (if (reloaded t s).control.run = .off ∨ (reloaded t s).control.geometry.slots ≤ arg.toNat then
            setHolder (.ready (emptySnapshot arg.toNat (reloaded t s))) (reloaded t s)
          else setHolder (.gathering arg.toNat) (reloaded t s)) =
          setHolder (if s.control.run = .off ∨ s.control.geometry.slots ≤ arg.toNat then .ready (emptySnapshot arg.toNat s.toDevice)
            else .gathering arg.toNat) (reloaded t s) :=
        (apply_ite (fun x => setHolder x (reloaded t s)) _ _ _).symm
      simp only [holder]
      rw [goodRequest_awaits h _ _ (by rfl)]
      rfl
    · rw [if_neg (by simp [run, inside])]
    · rw [if_pos empty]
      rfl
  · have goes : exec .snapshotTaken s = .next (s.onDevice fillHolder) := exec_of_guard (c := .snapshotTaken) trivial
    rw [goes, State.onDevice, fillHolder]
    simp only [gathering]
    rfl
  · have goes : exec .snapshotTaken s = .next (s.onDevice fillHolder) := exec_of_guard (c := .snapshotTaken) trivial
    rw [goes, onDevice_same]
    cases holder : s.link.holder with
    | gathering n => exact absurd holder (none n)
    | none => simp [fillHolder, holder]
    | ready n => simp [fillHolder, holder]
  · refine ⟨holderBytes s.link.holder, exec_replies (c := .mapFetch arg) h trivial ⟨_, rfl, rfl⟩, fun other => ?_, fun n ready short => ?_⟩
    · cases holder : s.link.holder with
      | ready n => exact absurd holder (other n)
      | none => rfl
      | gathering n => rfl
    · have reply : holderBytes s.link.holder = snapshotBytes n := by rw [ready, holderBytes]
      rw [reply]
      obtain ⟨valid, slot, state, flags, frame, count, zero, free⟩ := snapshotBytes_header n
      refine ⟨snapshotBytes_length short, valid, slot, ?_, by rw [flags, toNat_flagsByte], frame, count, zero, free, fun j p hp => ?_,
        fun k past => snapshotBytes_getD_past past⟩
      · rw [state]
        cases n.state <;> rfl
      · obtain ⟨first, last, causes, spanState, absorbed, progress, tallies⟩ := spanBytes_fields p
        refine ⟨(payload16_entry hp (k := 0) (by omega)).trans first, ?_, ?_, ?_, ?_, ?_, ?_⟩
        · rw [show 14 + 12 * j = 12 + 12 * j + 2 by omega, payload16_entry hp (by omega), last]
        · rw [show 16 + 12 * j = 12 + 12 * j + 4 by omega, snapshotBytes_getD_entry hp (by omega), causes, toNat_causesByte]
        · rw [show 17 + 12 * j = 12 + 12 * j + 5 by omega, snapshotBytes_getD_entry hp (by omega), spanState]
          cases p.state <;> rfl
        · rw [show 18 + 12 * j = 12 + 12 * j + 6 by omega, payload16_entry hp (by omega), absorbed]
        · rw [show 20 + 12 * j = 12 + 12 * j + 8 by omega, payload16_entry hp (by omega), progress]
        · rw [show 22 + 12 * j = 12 + 12 * j + 10 by omega, payload16_entry hp (by omega), tallies]
          rfl

/-- Settles O30: causes and enables as two fields, and the payload's ten positions. -/
theorem attentionRequests : Obligations.AttentionRequests := by
  refine ⟨fun arg s t h => ⟨attentionBytes s.link.causes ++ attentionBytes s.link.enables, rfl,
    exec_replies (c := .readAttention arg) h trivial ⟨_, rfl, rfl⟩, fun k => ?_⟩, fun arg a b more s t h => ?_, fun arg a b more s t h => ?_,
    fun arg p s t h short => ⟨exec_waits (c := .clearAttention arg p) h trivial rfl short,
      exec_waits (c := .setAttentionEnable arg p) h trivial rfl short⟩⟩
  · have causes : payload16 (attentionBytes s.link.causes ++ attentionBytes s.link.enables) 0 = s.link.causes.setWidth 16 :=
      payload16_field16 _ _
    have enables : payload16 (attentionBytes s.link.causes ++ attentionBytes s.link.enables) 2 = s.link.enables.setWidth 16 :=
      join_field16 _
    rw [causes, enables]
    simp only [BitVec.getLsbD_setWidth]
    have wide : ∀ v : BitVec 10, (decide (k < 16) && v.getLsbD k) = v.getLsbD k := fun v => by
      by_cases hk : k < 10
      · simp [show k < 16 by omega]
      · simp [BitVec.getLsbD_of_ge v k (by omega)]
    exact ⟨wide _, wide _⟩
  · refine ⟨s.link.causes &&& ~~~ causePositions [a, b], ?_, fun k hk => ?_⟩
    · rw [exec_stores (c := .clearAttention arg (a :: b :: more)) h trivial rfl (by simp [payloadLength, Config.attentionLength]),
        goodRequest_awaits h _ _ (by rfl)]
      rfl
    · rw [← show payload16 [a, b] 0 = a ++ b from rfl, ← getLsbD_causePositions hk]
      simp [hk]
  · refine ⟨causePositions [a, b], ?_, fun k hk => getLsbD_causePositions hk⟩
    rw [exec_stores (c := .setAttentionEnable arg (a :: b :: more)) h trivial rfl (by simp [payloadLength, Config.attentionLength]),
      goodRequest_awaits h _ _ (by rfl)]
    rfl

end Sys2Proof.Requests
end

section
/-! PROOFS. END RUN and RESET: the port freed, the run ended, the last reports (sections 1.8 and 9.4). -/

namespace Sys2Proof.Machine

section
variable {d : Device}

/-! ### The port freed (R16, R17) -/

/-- The rest of a burner transfer in progress, freed of its run, on the memory side as one transfer. -/
def freedRest (ended : Bool) (u : BurnerTransfer) : BurnerTransfer :=
  { u with mode := .forwarding, unchanged := true, holdAsked := false, outside := u.outside || ended,
           inPart := if u.write then [] else List.replicate (u.beats - u.next) none }

/-- Port and arbiter once the port is freed: the transfer on the memory side and the rest of the burner's. -/
structure PortFreed (ended : Bool) (d : Device) (p : Port) (a : Arbiter) : Prop where
  brd : p.brd = d.port.brd
  mark : a.passOver = false
  busy : ∀ m, d.arbiter.onBus = some m → a.onBus = some m ∧ p.transfer = d.port.transfer.map (unchangedRest ended)
  idle : d.arbiter.onBus = none → d.port.transfer = none → a.onBus = none ∧ p.transfer = none
  rest : d.arbiter.onBus = none → ∀ u, d.port.transfer = some u → u.mode ≠ .forwarding →
    a.onBus = some (forwarded u) ∧ p.transfer = some (freedRest ended u)

/-- A freed transfer that is not on its way claims the memory side. -/
theorem unchangedRest_mode (ended : Bool) (u : BurnerTransfer) :
    (unchangedRest ended u).mode = if u.mode = .forwarding then .forwarding else .waiting := by
  unfold unchangedRest releaseTransfer
  cases u.mode <;> rfl

/-- The memory side free and no engine claim: a freed transfer is forwarded whole. -/
theorem arbitrate_freed {u : BurnerTransfer} (ended : Bool) (bus : d.arbiter.onBus = none) (idle : d.engine.claiming = false)
    (ht : d.port.transfer = some u) (mode : u.mode ≠ .forwarding) : arbitrate (freePort ended d) =
      { d with port := { d.port with transfer := some (freedRest ended u) },
               arbiter := { onBus := some (forwarded u), passOver := false } } := by
  have after : (freePort ended d).port.transfer = some (unchangedRest ended u) := by simp [freePort, ht]
  have claims : portState (freePort ended d) = .waiting := by
    exact portState_eq_waiting.2 ⟨_, after, by rw [unchangedRest_mode, if_neg mode]⟩
  have grant : grantBurner (freePort ended d) =
      forwardWhole (unchangedRest ended u) (freePort ended d) := by
    simp only [grantBurner, after]
    rw [if_pos (by simp [unchangedRest])]
    rfl
  rw [arbitrate_burner (d := freePort ended d) bus idle claims, grant, grantEngineIfFree, if_neg (by simp [forwardWhole, setBus])]
  rfl

/-- A port that is freed with the engine IDLE changes port and arbiter alone. -/
theorem arbitrate_freePort (ended : Bool) (idle : d.engine.claiming = false) :
    ∃ p a, arbitrate (freePort ended d) = { d with port := p, arbiter := a } ∧ PortFreed ended d p a := by
  by_cases waits : d.arbiter.onBus = none ∧ ∃ u, d.port.transfer = some u ∧ u.mode ≠ .forwarding
  · obtain ⟨bus, u, ht, mode⟩ := waits
    refine ⟨_, _, arbitrate_freed ended bus idle ht mode, rfl, rfl, fun m hm => ?_, fun _ none => ?_, fun _ v hv _ => ?_⟩
    · simp [bus] at hm
    · simp [ht] at none
    · obtain rfl := Option.some.inj (ht.symm.trans hv)
      exact ⟨rfl, rfl⟩
  · have stays : arbitrate (freePort ended d) = freePort ended d := by
      by_cases bus : d.arbiter.onBus = none
      · refine arbitrate_idle idle fun claims => ?_
        obtain ⟨t, ht, mode⟩ := portState_eq_waiting.1 claims
        simp only [freePort, Option.map_eq_some_iff] at ht
        obtain ⟨u, hu, rfl⟩ := ht
        refine waits ⟨bus, u, hu, fun forwarding => ?_⟩
        rw [unchangedRest_mode, if_pos forwarding] at mode
        exact nomatch mode
      · exact arbitrate_busy bus
    refine ⟨_, _, stays, rfl, rfl, fun m hm => ⟨hm, rfl⟩, fun bus none => ⟨bus, by simp [none]⟩, fun bus u ht mode => ?_⟩
    exact absurd ⟨bus, u, ht, mode⟩ waits

/-! ### The reports at the end of a run (R141, R143, R168) -/

theorem foldQuality_queue (q : Nat) (d : Device) : (foldQuality q d).reports.queue = d.reports.queue := by
  unfold foldQuality
  extract_lets before after e
  split <;> rfl

theorem countFrame_queue (k : EndKind) (d : Device) : (countFrame k d).reports.queue = d.reports.queue := by
  cases k <;> rfl

theorem countDecision_queue (s i : Nat) (x : LineEntry) (d : Device) : (countDecision s i x d).reports.queue = d.reports.queue := by
  unfold countDecision
  split_ifs <;> cases x <;> rfl

/-- With room in the queue a report joins its tail. -/
theorem offerReport_queue (p : FrameReport) (room : d.reports.queue.length < 32) :
    (offerReport p d).reports.queue = d.reports.queue ++ [{ p with gap := d.reports.gap }] := by
  rw [offerReport, if_pos (show _ < Config.queueDepth from room)]
  extract_lets stored
  split <;> rfl

/-- With room in the queue a drain record joins its tail as a report of it. -/
theorem handOverRecord_queue (r : DrainRecord) (room : d.reports.queue.length < 32) : ∃ p : FrameReport,
    (handOverRecord r d).reports.queue = d.reports.queue ++ [p] ∧ p.frame = r.frame ∧ p.slot = r.slot ∧ p.endKind = r.endKind ∧
      p.drainStarted = true ∧ p.signature = r.signature ∧ p.holdTime = r.holdTime ∧ p.allowanceLeft = r.allowanceLeft := by
  have kept : (foldQuality (buildReport d (recordEnding (fillTallies d r))).quality (countFrame r.endKind d)).reports.queue =
      d.reports.queue := by rw [foldQuality_queue, countFrame_queue]
  exact ⟨_, (offerReport_queue _ (lt_of_eq_of_lt (congrArg List.length kept) room)).trans (congrArg (· ++ _) kept), rfl, rfl, rfl, rfl, rfl, rfl, rfl⟩

/-! ### The end of a run, block by block (R168) -/

/-- The part whose run has ended, with its last reports, the engine and the map cleared, before the port goes on. -/
def runEnded (d : Device) : Device :=
  let e := endQuery (clearRun (handOverDraining .cutOff (abortJob (endHold (handOverClosing d)))))
  { e with control := { e.control with run := .off } }

theorem endRunPart_eq (d : Device) : endRunPart d = arbitrate (freePort (d.control.run == .running) (runEnded d)) := rfl

theorem endQuery_same (d : Device) : (endQuery d).control = d.control ∧ (endQuery d).ring = d.ring ∧ (endQuery d).checker = d.checker ∧
    (endQuery d).map = d.map ∧ (endQuery d).delivery = d.delivery ∧ (endQuery d).reports = d.reports ∧
    (endQuery d).link.causes = d.link.causes ∧ (endQuery d).link.enables = d.link.enables := by
  unfold endQuery
  split <;> simp

/-- A query still GATHERING is answered, and no other holder is touched (R81). -/
theorem endQuery_holder (d : Device) : (endQuery d).link.holder = match d.link.holder with
    | .gathering n => .ready (emptySnapshot n d)
    | x => x := by
  unfold endQuery
  cases h : d.link.holder <;> simp [h]

theorem endHold_same (d : Device) : (endHold d).control = d.control ∧ (endHold d).link.holder = d.link.holder ∧
    (endHold d).link.enables = d.link.enables ∧ (endHold d).reports.queue = d.reports.queue := by
  unfold endHold
  split <;> simp [settleLine, onRecord, countDecision_queue]

theorem handOverClosing_none (h : d.delivery.closing = none) : handOverClosing d = d := by simp [handOverClosing, h]

theorem handOverDraining_none (k : EndKind) (h : d.delivery.record = none) : handOverDraining k d = d := by
  simp [handOverDraining, h]

theorem endHold_none (h : d.delivery.record = none) : endHold d = d := by
  unfold endHold
  cases d.delivery.held <;> simp [h]

/-- A held read's ticks are charged to the drain record (R135, R143). -/
theorem endHold_record {r : DrainRecord} (hr : d.delivery.record = some r) : ∃ x : DrainRecord,
    (endHold d).delivery.record = some x ∧ x.frame = r.frame ∧ x.slot = r.slot ∧ x.signature = r.signature ∧
      x.holdTime = r.holdTime + d.delivery.held.elim 0 HeldRead.ticks ∧
      x.allowanceLeft = r.allowanceLeft - d.delivery.held.elim 0 HeldRead.ticks := by
  unfold endHold
  split
  · next h r' held record =>
    obtain rfl := Option.some.inj (hr.symm.trans record)
    refine ⟨fixEntry (chargeHold h.ticks d) h.line .asStored (chargeRecord h.ticks r), ?_, rfl, rfl, rfl, ?_, ?_⟩
    · rw [dropHold_record, settleLine_delivery, chargeHold_delivery hr]
      rfl
    · rw [held]
      rfl
    · rw [held]
      rfl
  · next other =>
    cases held : d.delivery.held with
    | none => exact ⟨r, hr, rfl, rfl, rfl, rfl, rfl⟩
    | some h => exact absurd hr (other h r held)

/-- A good request changes the transaction and REQUEST_BAD alone. -/
theorem goodRequest_eq (bytes : List Byte) (d : Device) : ∃ l,
    goodRequest bytes d = { d with link := { d.link with line := l, requestBad := false } } := by
  unfold goodRequest putReply
  split
  · exact ⟨_, rfl⟩
  · exact ⟨_, rfl⟩
  · exact ⟨_, rfl⟩

/-- What the end of a run leaves in the blocks. -/
theorem runEnded_blocks (d : Device) : (runEnded d).control = { d.control with run := .off } ∧
    (runEnded d).ring = Ring.start d.control.geometry.slots ∧ (runEnded d).checker = Checker.start d.control.geometry.lines ∧
    (runEnded d).map = DamageMap.start d.control.geometry.slots ∧ (runEnded d).engine = Engine.start ∧
    (runEnded d).delivery = Delivery.start ∧ (runEnded d).link.enables = d.link.enables ∧ (runEnded d).port = d.port ∧
    (runEnded d).arbiter.onBus = d.arbiter.onBus.map orphanTransfer := by
  obtain ⟨control, -, -, enables⟩ := endHold_same (handOverClosing d)
  have queried := endQuery_same (clearRun (handOverDraining .cutOff (abortJob (endHold (handOverClosing d)))))
  obtain ⟨port, arbiter, engine⟩ := endQuery_blocks (clearRun (handOverDraining .cutOff (abortJob (endHold (handOverClosing d)))))
  obtain ⟨qcontrol, ring, checker, map, delivery, -, -, qenables⟩ := queried
  have same : (clearRun (handOverDraining .cutOff (abortJob (endHold (handOverClosing d))))).control = d.control := by
    simp [clearRun, control]
  refine ⟨?_, ring.trans ?_, checker.trans ?_, map.trans ?_, engine, delivery, qenables.trans ?_, port.trans ?_, ?_⟩
  · show { (endQuery _).control with run := .off } = _
    rw [qcontrol, same]
  · simp [clearRun, fallLockHeld, control, Ring.start]
  · simp [clearRun, control]
  · simp [clearRun, control]
  · simp [clearRun, fallLockHeld]
  · simp [clearRun, endHold_port]
  · show (endQuery _).arbiter.onBus = _
    rw [arbiter]
    simp [clearRun, abortJob, endHold_arbiter]

theorem usedRecords_start (n : Nat) : usedRecords (DamageMap.start n) = 0 := by simp [usedRecords, DamageMap.start]

/-- A map query still GATHERING completes empty, any other holder stays (R81). -/
theorem runEnded_holder (d : Device) : (runEnded d).link.holder = match d.link.holder with
    | .gathering n => .ready { slot := n, state := .empty, flags := SlotFlags.clear, frame := 0, spans := [], free := 1024 }
    | x => x := by
  have kept : (clearRun (handOverDraining .cutOff (abortJob (endHold (handOverClosing d))))).link.holder = d.link.holder := by
    simp [clearRun, endHold_same]
  refine (endQuery_holder _).trans ?_
  rw [kept]
  cases d.link.holder with
  | gathering n =>
    simp only [emptySnapshot, freeRecords]
    rw [show (clearRun _).map = DamageMap.start _ from rfl, usedRecords_start]
    rfl
  | _ => rfl

/-- With neither record nothing is reported, and no cause is raised. -/
theorem runEnded_quiet (record : d.delivery.record = none) (closing : d.delivery.closing = none) :
    (runEnded d).reports = d.reports ∧ (runEnded d).link.causes = d.link.causes := by
  have ended : endHold (handOverClosing d) = d := by rw [handOverClosing_none closing, endHold_none record]
  have queried := endQuery_same (clearRun (handOverDraining .cutOff (abortJob (endHold (handOverClosing d)))))
  obtain ⟨-, -, -, -, -, reports, causes, -⟩ := queried
  refine ⟨reports.trans ?_, causes.trans ?_⟩ <;> rw [ended, handOverDraining_none _ (show (abortJob d).delivery.record = none from record)] <;> rfl

/-- With room for two, the closing record's report and then the drain record's join the queue (R141, R143). -/
theorem runEnded_queue (room : d.reports.queue.length + 2 ≤ 32) : ∃ a b : List FrameReport,
    (runEnded d).reports.queue = d.reports.queue ++ a ++ b ∧
    (d.delivery.closing = none → a = []) ∧ (d.delivery.record = none → b = []) ∧
    (∀ r, d.delivery.closing = some r → ∃ p, a = [p] ∧ p.frame = r.frame ∧ p.slot = r.slot ∧ p.endKind = r.endKind ∧
      p.drainStarted = true ∧ p.signature = r.signature ∧ p.holdTime = r.holdTime) ∧
    (∀ r, d.delivery.record = some r → ∃ p charge, b = [p] ∧ p.frame = r.frame ∧ p.slot = r.slot ∧
      p.endKind = .cutOff ∧ p.drainStarted = true ∧ p.signature = r.signature ∧
      charge = d.delivery.held.elim 0 HeldRead.ticks ∧ p.holdTime = r.holdTime + charge ∧
      p.allowanceLeft = r.allowanceLeft - charge) := by
  have closed : ∃ a, (handOverClosing d).reports.queue = d.reports.queue ++ a ∧ a.length ≤ 1 ∧ (d.delivery.closing = none → a = []) ∧
      (∀ r, d.delivery.closing = some r → ∃ p, a = [p] ∧ p.frame = r.frame ∧ p.slot = r.slot ∧ p.endKind = r.endKind ∧
        p.drainStarted = true ∧ p.signature = r.signature ∧ p.holdTime = r.holdTime) := by
    cases closing : d.delivery.closing with
    | none => exact ⟨[], by simp [handOverClosing_none closing], by simp, fun _ => rfl, by simp⟩
    | some r =>
      obtain ⟨p, queue, fields⟩ := handOverRecord_queue (d := d) r (by omega)
      refine ⟨[p], by simpa [handOverClosing, closing] using queue, by simp, by simp, fun r' hr' => ?_⟩
      obtain rfl := Option.some.inj hr'
      obtain ⟨frame, slot, kind, started, signature, time, -⟩ := fields
      exact ⟨p, rfl, frame, slot, kind, started, signature, time⟩
  obtain ⟨a, queue, short, unclosed, reported⟩ := closed
  have record : (handOverClosing d).delivery.record = d.delivery.record := handOverClosing_record d
  have held : (handOverClosing d).delivery.held = d.delivery.held := by rw [handOverClosing_delivery]
  have ended : (abortJob (endHold (handOverClosing d))).reports.queue = d.reports.queue ++ a :=
    (endHold_same (handOverClosing d)).2.2.2.trans queue
  have cleared : (runEnded d).reports.queue =
      (handOverDraining .cutOff (abortJob (endHold (handOverClosing d)))).reports.queue := by
    obtain ⟨-, -, -, -, -, reports, -⟩ := endQuery_same
      (clearRun (handOverDraining .cutOff (abortJob (endHold (handOverClosing d)))))
    exact congrArg Reports.queue (reports.trans (by simp [clearRun]))
  cases hr : d.delivery.record with
  | none =>
    refine ⟨a, [], ?_, unclosed, fun _ => rfl, reported, by simp⟩
    rw [cleared, handOverDraining_none, ended, List.append_nil]
    rw [endHold_none (record.trans hr)]
    exact record.trans hr
  | some r =>
    obtain ⟨x, hx, xframe, xslot, xsignature, xtime, xleft⟩ := endHold_record (record.trans hr)
    obtain ⟨p, joined, frame, slot, kind, started, signature, time, left⟩ := handOverRecord_queue
      (d := abortJob (endHold (handOverClosing d))) { x with endKind := .cutOff } (by rw [ended, List.length_append]; omega)
    have draining : (handOverDraining .cutOff (abortJob (endHold (handOverClosing d)))).reports.queue = d.reports.queue ++ a ++ [p] := by
      unfold handOverDraining
      rw [show (abortJob (endHold (handOverClosing d))).delivery.record = some x from hx]
      rw [← ended]
      exact joined
    refine ⟨a, [p], cleared.trans draining, unclosed, by simp, reported, fun r' h => ?_⟩
    obtain rfl := Option.some.inj h
    rw [held] at xtime xleft
    exact ⟨p, _, rfl, frame.trans xframe, slot.trans xslot, kind, started, signature.trans xsignature, rfl, time.trans xtime, left.trans xleft⟩

end

end Sys2Proof.Machine

namespace Sys2Proof.Requests

open Sys2Proof.Machine

/-- Settles O4: the blocks are put at their reset values, and then the freed port changes port and arbiter alone. -/
theorem resetCommand : Obligations.ResetCommand := by
  intro s
  let r : Device := { State.reset.toDevice with
    port := s.port
    arbiter := { onBus := s.arbiter.onBus.map orphanTransfer, passOver := false }
    link := { Link.start with line := lineAfterReset s.link.line } }
  obtain ⟨p, a, after, freed⟩ := arbitrate_freePort (d := r) true rfl
  have line : lineAfterReset s.link.line = if s.link.line = .high then .high else .ignored := by cases s.link.line <;> rfl
  refine ⟨{ s with toDevice := { r with port := p, arbiter := a } }, ?_, rfl, rfl, rfl, rfl, rfl, rfl, rfl, rfl, ?_, freed.brd, freed.mark,
    fun m hm => freed.busy _ (by simp [r, hm, orphanTransfer]), fun bus => freed.idle (by simp [r, bus]), fun bus u hu mode => ?_⟩
  · rw [exec_of_guard (c := .reset) trivial]
    exact congrArg (fun x => Host.Outcome.next { s with toDevice := x }) after
  · rw [← line]
    rfl
  · obtain ⟨onBus, transfer⟩ := freed.rest (by simp [r, bus]) u hu mode
    exact ⟨onBus, by simpa [freedRest] using transfer⟩

/-- Settles O21: the run ends block by block, its last reports first, and then the freed port changes port and arbiter alone. -/
theorem endRunEndsTheRun : Obligations.EndRunEndsTheRun := by
  intro arg s t h
  refine ⟨fun off => exec_replies (c := .endRun arg) h trivial ⟨_, rfl, ?_⟩, fun run => ?_⟩
  · rw [endRunRequest, if_pos (show (reloaded t s).control.run = .off from off)]
  · obtain ⟨control, ring, checker, map, engine, delivery, enables, port, bus⟩ := runEnded_blocks (reloaded t s)
    obtain ⟨p, a, after, freed⟩ := arbitrate_freePort (d := runEnded (reloaded t s)) (s.control.run == .running) (by rw [engine]; rfl)
    obtain ⟨l, good⟩ := goodRequest_eq [] ({ runEnded (reloaded t s) with port := p, arbiter := a })
    have next := exec_awaits (c := .endRun arg) h trivial rfl
    rw [endRunRequest, if_neg (show (reloaded t s).control.run ≠ .off from run), endRunPart_eq, show (reloaded t s).control = s.control from rfl, after, good] at next
    refine ⟨_, next, rfl, control, ring, checker, map, engine, delivery, freed.mark, rfl, enables, ?_, fun n gathering => ?_, fun other => ?_,
      fun record closing => runEnded_quiet (d := reloaded t s) record closing, freed.brd.trans (congrArg Port.brd port), fun m hm => ?_,
      fun idle none => ?_, fun idle v hv mode => ?_, fun room => runEnded_queue (d := reloaded t s) room⟩
    · exact ((Keeps.refl (reloaded t s)).handOverClosing.endHold.abortJob.handOverDraining .cutOff).clearRun.endQuery.causes
    · exact (runEnded_holder (reloaded t s)).trans (by rw [show (reloaded t s).link = s.link from rfl, gathering])
    · refine (runEnded_holder (reloaded t s)).trans ?_
      rw [show (reloaded t s).link = s.link from rfl]
      cases holder : s.link.holder with
      | gathering n => exact absurd holder (other n)
      | _ => rfl
    · have on : (runEnded (reloaded t s)).arbiter.onBus = some (orphanTransfer m) := bus.trans (congrArg (Option.map orphanTransfer) hm)
      obtain ⟨onBus, transfer⟩ := freed.busy _ on
      exact ⟨onBus, transfer.trans (by rw [port]; rfl)⟩
    · exact freed.idle (bus.trans (congrArg (Option.map orphanTransfer) idle)) ((congrArg Port.transfer port).trans none)
    · exact freed.rest (bus.trans (congrArg (Option.map orphanTransfer) idle)) v ((congrArg Port.transfer port).trans hv) mode

end Sys2Proof.Requests
end

section
/-! PROOFS. Addresses and their names, redirect sources, decisions (sections 2.1, 2.7 and 7.2). -/

namespace Sys2Proof.Machine

/-! ### Naming (R18) -/

section
variable {g : Geometry} {a s i q : Nat}

theorem nameAddress_line_iff (pitch : 0 < g.slotPitch) (linePitch : 0 < g.linePitch) (packet : 2 * g.samples + 8 ≤ g.linePitch)
    (slot : g.lines * g.linePitch ≤ g.slotPitch) :
    nameAddress g a = .line s i q ↔ s < g.slots ∧ i < g.lines ∧ q < 2 * g.samples + 8 ∧ a = lineAddress g s i q := by
  constructor
  · intro h
    unfold nameAddress at h
    split at h
    · next inside =>
      extract_lets s' o at h
      split at h
      · next line =>
        split at h
        · next data =>
          obtain ⟨rfl, rfl, rfl⟩ := BeatName.line.inj h
          have slots : s' < g.slots := Nat.div_lt_of_lt_mul (by rw [Nat.mul_comm]; omega)
          have split1 := Nat.div_add_mod (a - g.base) g.slotPitch
          have split2 := Nat.div_add_mod o g.linePitch
          refine ⟨slots, Nat.div_lt_of_lt_mul (by rw [Nat.mul_comm]; exact line), data, ?_⟩
          rw [lineAddress, Nat.mul_comm s', Nat.mul_comm (o / g.linePitch)]
          show a = g.base + g.slotPitch * ((a - g.base) / g.slotPitch) + _ + _
          omega
        · cases h
      · cases h
    · cases h
  · rintro ⟨slots, lines, data, rfl⟩
    have line : i * g.linePitch + q < g.lines * g.linePitch := by
      have := Nat.mul_le_mul_right g.linePitch (Nat.succ_le_of_lt lines)
      rw [Nat.succ_mul] at this
      omega
    have ring : s * g.slotPitch + g.slotPitch ≤ g.slots * g.slotPitch := by
      rw [← Nat.succ_mul]
      exact Nat.mul_le_mul_right _ slots
    have offset : lineAddress g s i q - g.base = i * g.linePitch + q + s * g.slotPitch := by
      rw [lineAddress]
      omega
    have slotOf : (lineAddress g s i q - g.base) / g.slotPitch = s := by
      rw [offset, Nat.add_mul_div_right _ _ pitch, Nat.div_eq_of_lt (by omega), Nat.zero_add]
    have within : (lineAddress g s i q - g.base) % g.slotPitch = q + i * g.linePitch := by
      rw [offset, Nat.add_mul_mod_self_right, Nat.mod_eq_of_lt (by omega), Nat.add_comm]
    have lineOf : (q + i * g.linePitch) / g.linePitch = i := by
      rw [Nat.add_mul_div_right _ _ linePitch, Nat.div_eq_of_lt (by omega), Nat.zero_add]
    have column : (q + i * g.linePitch) % g.linePitch = q := by rw [Nat.add_mul_mod_self_right, Nat.mod_eq_of_lt (by omega)]
    unfold nameAddress
    rw [if_pos (by rw [lineAddress]; omega)]
    simp only [slotOf, within, lineOf, column]
    rw [if_pos (by omega), if_pos data]

theorem nameAddress_outside_iff : nameAddress g a = .outside ↔ a < g.base ∨ g.base + g.slots * g.slotPitch ≤ a := by
  unfold nameAddress
  split
  · next inside =>
    refine iff_of_false ?_ (by omega)
    extract_lets s' o
    split
    · split <;> simp
    · simp
  · next inside => exact iff_of_true rfl (by omega)

end

/-! ### Searches (R84, R130) -/

section
variable {ok : Nat → Bool} {step lines : Nat}

theorem searchAbove_eq_some {steps start j : Nat} (h : searchAbove ok step steps start = some j) : ∃ m, 1 ≤ m ∧ m ≤ steps ∧
    ok j = true ∧ j + m * step = start ∧ ∀ n, 1 ≤ n → n < m → ok (start - n * step) = false := by
  induction steps generalizing start with
  | zero => cases h
  | succ steps ih =>
    rw [searchAbove] at h
    split_ifs at h with past hit
    · obtain rfl := Option.some.inj h
      exact ⟨1, le_rfl, by omega, hit, by omega, fun n _ _ => by omega⟩
    · obtain ⟨m, one, most, found, place, before⟩ := ih h
      refine ⟨m + 1, by omega, by omega, found, by rw [Nat.add_mul]; omega, fun n first last => ?_⟩
      obtain ⟨k, rfl⟩ : ∃ k, n = k + 1 := ⟨n - 1, by omega⟩
      rw [Nat.add_mul, Nat.one_mul, Nat.add_comm, ← Nat.sub_sub]
      by_cases zero : k = 0
      · simpa [zero] using hit
      · exact before k (by omega) (by omega)

theorem searchAbove_eq_none {steps start : Nat} (h : searchAbove ok step steps start = none) :
    ∀ n, 1 ≤ n → n ≤ steps → n * step ≤ start → ok (start - n * step) = false := by
  induction steps generalizing start with
  | zero => omega
  | succ steps ih =>
    intro n first last inside
    obtain ⟨k, rfl⟩ : ∃ k, n = k + 1 := ⟨n - 1, by omega⟩
    rw [Nat.add_mul, Nat.one_mul] at inside
    rw [searchAbove, if_neg (by omega)] at h
    split_ifs at h with hit
    rw [Nat.add_mul, Nat.one_mul, Nat.add_comm, ← Nat.sub_sub]
    by_cases zero : k = 0
    · simpa [zero] using hit
    · exact ih h k (by omega) (by omega) (by omega)

theorem searchBelow_eq_some {steps start j : Nat} (h : searchBelow ok step lines steps start = some j) : ∃ m, 1 ≤ m ∧ m ≤ steps ∧
    ok j = true ∧ j = start + m * step ∧ j < lines ∧ ∀ n, 1 ≤ n → n < m → ok (start + n * step) = false := by
  induction steps generalizing start with
  | zero => cases h
  | succ steps ih =>
    rw [searchBelow] at h
    split_ifs at h with past hit
    · obtain rfl := Option.some.inj h
      exact ⟨1, le_rfl, by omega, hit, by omega, by omega, fun n _ _ => by omega⟩
    · obtain ⟨m, one, most, found, place, inside, before⟩ := ih h
      refine ⟨m + 1, by omega, by omega, found, by rw [Nat.add_mul]; omega, inside, fun n first last => ?_⟩
      obtain ⟨k, rfl⟩ : ∃ k, n = k + 1 := ⟨n - 1, by omega⟩
      rw [Nat.add_mul, Nat.one_mul, Nat.add_comm (k * step), ← Nat.add_assoc]
      by_cases zero : k = 0
      · simpa [zero] using hit
      · exact before k (by omega) (by omega)

theorem searchBelow_eq_none {steps start : Nat} (h : searchBelow ok step lines steps start = none) :
    ∀ n, 1 ≤ n → n ≤ steps → start + n * step < lines → ok (start + n * step) = false := by
  induction steps generalizing start with
  | zero => omega
  | succ steps ih =>
    intro n first last inside
    obtain ⟨k, rfl⟩ : ∃ k, n = k + 1 := ⟨n - 1, by omega⟩
    rw [Nat.add_mul, Nat.one_mul] at inside
    rw [searchBelow, if_neg (by omega)] at h
    split_ifs at h with hit
    rw [Nat.add_mul, Nat.one_mul, Nat.add_comm (k * step), ← Nat.add_assoc]
    by_cases zero : k = 0
    · simpa [zero] using hit
    · exact ih h k (by omega) (by omega) (by omega)

end

/-! ### References and sources (R39, R40, R130) -/

section
variable {d : Device} {s i : Nat}

theorem isClean_iff : isClean d s i = true ↔ ∀ p ∈ spansOf d s, ¬ (p.first ≤ i ∧ i ≤ p.last) := by
  simp [isClean, spanHolding, holdsLine]

theorem frame_before_iff (x y : BitVec 32) : x = y - 1 ↔ (x.toNat + 1) % 4294967296 = y.toNat := by
  rw [← BitVec.toNat_inj]
  have := x.isLt
  have := y.isLt
  rw [BitVec.toNat_sub, show (1 : BitVec 32).toNat = 1 from rfl]
  omega

theorem referenceSlot_lt (inside : s < d.control.geometry.slots) : referenceSlot d.control.geometry s < d.control.geometry.slots ∧
    (referenceSlot d.control.geometry s + 1) % d.control.geometry.slots = s := by
  have positive : 0 < d.control.geometry.slots := by omega
  refine ⟨Nat.mod_lt _ positive, ?_⟩
  rw [referenceSlot, Nat.mod_add_mod, show s + d.control.geometry.slots - 1 + 1 = s + d.control.geometry.slots by omega, Nat.add_mod_right,
    Nat.mod_eq_of_lt inside]

theorem referenceValid_iff : referenceValid d s = true ↔ (slotAt d (referenceSlot d.control.geometry s)).state ≠ .empty ∧
    ((slotAt d (referenceSlot d.control.geometry s)).frame.toNat + 1) % 4294967296 = (slotAt d s).frame.toNat ∧
    (slotAt d (referenceSlot d.control.geometry s)).flags.stale = false ∧
    (slotAt d (referenceSlot d.control.geometry s)).flags.lossy = false := by
  simp [referenceValid, ← frame_before_iff, and_assoc]

/-- The rows of R128 for a line in a span. -/
theorem decideContext_of_span {r : DrainRecord} {p : Span} (held : spanHolding d r.slot i = some p) : decideContext d r i =
    if i < p.progress ∧ entryOf r i ≠ .passedUnhandled then .handled
    else if spoiled (slotAt d r.slot) = true ∨ unchecked (slotAt d r.slot) i = true then .asStored
    else if entryOf r i = .unreached ∧ p.state = .active ∧ p.progress = i ∧ 0 < r.holdBudget ∧ r.holdBudget ≤ r.allowanceLeft then .held
    else redirectOrDamage d r i := by
  simp [decideContext, held, holdOffered, and_assoc]

end

end Sys2Proof.Machine

namespace Sys2Proof.Sources

open Sys2Proof.Machine

/-- Settles O47: quotient and remainder by the two pitches. -/
theorem addressesAreNamed : Obligations.AddressesAreNamed := by
  intro g valid
  obtain ⟨slots, samples, ⟨-, packet, -⟩, ⟨lines, -⟩, ⟨-, slot⟩, base, ring, range⟩ := valid
  have linePitch : 0 < g.linePitch := by omega
  have pitch : 0 < g.slotPitch := lt_of_lt_of_le (Nat.mul_pos (by omega) linePitch) slot
  exact ⟨fun s i q hs hi hq => (nameAddress_line_iff pitch linePitch packet slot).2 ⟨hs, hi, hq, rfl⟩,
    fun a => nameAddress_outside_iff.2, fun a s i q => (nameAddress_line_iff pitch linePitch packet slot).1,
    fun a => nameAddress_outside_iff.1⟩

/-- Settles O48: the reference slot by its entry, and the two searches by what they skip. -/
theorem redirectSources : Obligations.RedirectSources := by
  refine ⟨fun d s i _ inside => ⟨referenceSlot d.control.geometry s, (referenceSlot_lt inside).1, (referenceSlot_lt inside).2,
    referenceValid_iff, ?_⟩, fun d r i => ⟨_, rfl, ?_, fun k => ?_, fun j hj => ?_, fun none => ?_⟩⟩
  · rw [temporalUsable, Bool.and_eq_true, isClean_iff]
  · unfold fieldDistance
    cases d.control.geometry.scan <;> simp
  · rw [spatialCandidate, Bool.and_eq_true, isClean_iff, Bool.not_eq_true']
  · unfold spatialSource at hj
    extract_lets g step at hj
    split at hj
    · next above =>
      obtain rfl := Option.some.inj hj
      obtain ⟨m, one, most, found, place, before⟩ := searchAbove_eq_some above
      exact ⟨m, one, most, found, .inl ⟨place, before⟩⟩
    · next above =>
      obtain ⟨m, one, most, found, place, inside, before⟩ := searchBelow_eq_some hj
      exact ⟨m, one, most, found, .inr ⟨place, inside, before, searchAbove_eq_none above⟩⟩
  · unfold spatialSource at none
    extract_lets g step at none
    split at none
    · cases none
    · next above => exact fun n one most => ⟨searchAbove_eq_none above n one most, searchBelow_eq_none none n one most⟩

/-- Settles O50: the decision's branches are the rows in their order. -/
theorem linesAreDecided : Obligations.LinesAreDecided := by
  intro d r i
  refine ⟨fun none => by simp [decideContext, none], fun p held => ?_, fun decided => ?_⟩
  · rw [decideContext_of_span held]
    refine ⟨fun past unhandled => if_pos ⟨past, unhandled⟩, fun ahead unsure => ?_, fun sure checked unreached active here some_ enough => ?_,
      fun ahead sure checked refused => ?_⟩
    · rw [if_neg ahead, if_pos unsure]
    · rw [if_neg (by simp [here]), if_neg (by simp [sure, checked]), if_pos ⟨unreached, active, here, some_, enough⟩]
    · rw [if_neg ahead, if_neg (by simp [sure, checked]), if_neg refused, redirectOrDamage]
      refine ⟨fun usable => if_pos usable, fun unusable j source => ?_, fun unusable none => ?_⟩
      · rw [if_neg (by simp [unusable]), source]
      · rw [if_neg (by simp [unusable]), none]
  · cases held : spanHolding d r.slot i with
    | none =>
      simp only [decideContext, held] at decided
      split at decided <;> cases decided
    | some p =>
      rw [decideContext_of_span held] at decided
      split_ifs at decided with past unsure offered
      · obtain ⟨unreached, active, here, some_, enough⟩ := offered
        exact ⟨p, rfl, active, here, unreached, some_, enough⟩
      · exact absurd decided (redirectOrDamage_ne_held d r i)

end Sys2Proof.Sources
end

section
/-! PROOFS. A drain's start and its end (sections 2.6 and 7.1). -/

namespace Sys2Proof.Machine

/-! ### Changed places of a list -/

theorem modifyAt_eq_set {α : Type} (f : α → α) (k : Nat) (l : List α) (x : α) : modifyAt f k l = l.set k (f (l.getD k x)) := by
  induction l generalizing k with
  | nil => cases k <;> rfl
  | cons y l ih =>
    cases k with
    | zero => rfl
    | succ k => simp [modifyAt, ih]

/-- The first place that meets a test is at or before every other. -/
theorem headD_placesOf_le {α : Type} {p : α → Bool} {k i : Nat} {l : List α} (n : Nat) (h : i ∈ placesOf p k l) :
    (placesOf p k l).headD n ≤ i := by
  induction l generalizing k with
  | nil => cases h
  | cons y l ih =>
    rw [placesOf] at h ⊢
    split
    · next hit =>
      rw [if_pos hit] at h
      rcases List.mem_cons.1 h with rfl | h
      · exact le_rfl
      · obtain ⟨_, later, -⟩ := mem_placesOf.1 h
        exact Nat.le_of_succ_le later
    · next miss =>
      rw [if_neg miss] at h
      exact ih h

theorem headD_mem_or {α : Type} (l : List α) (x : α) : l.headD x ∈ l ∨ l.headD x = x := by cases l <;> simp

section
variable {d : Device}

theorem modifySlot_eq (s : Nat) (f : SlotEntry → SlotEntry) (d : Device) :
    modifySlot s f d = { d with ring := { d.ring with slots := d.ring.slots.set s (f (slotAt d s)) } } := by
  rw [modifySlot, modifyAt_eq_set f s d.ring.slots .empty]
  rfl

/-- The unchecked-from line: every line before it has been written, itself not (R36). -/
theorem uncheckedLine_spec (d : Device) :
    (∀ i, i < uncheckedLine d → i < d.checker.table.length → statusOf d i ≠ .unwritten ∧ statusOf d i ≠ .lineOpen) ∧
    (uncheckedLine d = d.control.geometry.lines ∨ statusOf d (uncheckedLine d) = .unwritten ∨ statusOf d (uncheckedLine d) = .lineOpen) := by
  have status : ∀ i, i < d.checker.table.length → d.checker.table[i]? = some (statusOf d i) := fun i hi => by
    simp [statusOf, List.getD_eq_getElem?_getD, hi]
  refine ⟨fun i before inside => ?_, ?_⟩
  · by_contra open_
    have found : i ∈ placesOf (fun x => x == .unwritten || x == .lineOpen) 0 d.checker.table :=
      mem_placesOf.2 ⟨statusOf d i, Nat.zero_le _, status i inside, by
        simp only [Bool.or_eq_true, beq_iff_eq]
        by_contra neither
        exact open_ (not_or.1 neither)⟩
    exact absurd (headD_placesOf_le _ found) (not_le.2 before)
  · rcases headD_mem_or (placesOf (fun x => x == .unwritten || x == .lineOpen) 0 d.checker.table) d.control.geometry.lines with found | none
    · obtain ⟨x, -, here, open_⟩ := mem_placesOf.1 found
      have inside : uncheckedLine d < d.checker.table.length := (List.getElem?_eq_some_iff.1 here).1
      have : x = statusOf d (uncheckedLine d) := Option.some.inj (here.symm.trans (status _ inside))
      exact .inr (by simpa [this] using open_)
    · exact .inl none

/-! ### A drain's start (R35, R36) -/

/-- The record that a drain start opens, under settings a (R124). -/
def openedRecord (frame : BitVec 32) (k lines : Nat) (a : RepairSettings) : DrainRecord :=
  { frame := frame, slot := k, endKind := .stillOpen, holdBudget := a.holdBudget, holdAllowance := a.holdAllowance,
    allowanceLeft := a.holdAllowance, stationTag := a.stationTag, reach := a.reach, position := none,
    lines := List.replicate lines .unreached, holdCount := 0, holdTime := 0, signature := 0xFFFFFFFF, unverified := 0,
    redirectedTally := 0, damagedTally := 0, inFlight := 0 }

/-- The part after a drain start on slot k with no drain before it, the slot's entry now e. -/
def drainStarted (k : Nat) (e : SlotEntry) (d : Device) : Device :=
  { d with
    control := (applyPending d).control
    ring := { d.ring with slots := d.ring.slots.set k e, draining := some k, drainFrame := (slotAt d k).frame }
    delivery := { d.delivery with
      record := some (openedRecord (slotAt d k).frame k d.control.geometry.lines (applyPending d).control.repair) } }

theorem endDrain_none (h : d.ring.draining = none) : endDrain d = d := by simp [endDrain, h]

theorem makeDraining_eq {k : Nat} (inside : k < d.ring.slots.length) : makeDraining k d =
    { d with ring := { d.ring with slots := d.ring.slots.set k { slotAt d k with state := .draining }, draining := some k,
                                   drainFrame := (slotAt d k).frame } } := by
  simp only [makeDraining]
  rw [slotAt_modifySlot_self _ d inside, modifySlot_eq]

/-- A record opened on a slot whose frame number is known. -/
theorem openRecord_eq {k : Nat} {frame : BitVec 32} (h : (slotAt d k).frame = frame) : openRecord k d =
    { d with delivery := { d.delivery with
      record := some (openedRecord frame k d.control.geometry.lines d.control.repair) } } := by
  rw [openRecord, h]
  rfl

theorem slotAt_set_self {l : List SlotEntry} {k : Nat} (inside : k < l.length) (e : SlotEntry) (slots : d.ring.slots = l.set k e) :
    slotAt d k = e := by
  simp [slotAt, slots, List.getD_eq_getElem?_getD, inside]

theorem slotAt_makeDraining {k : Nat} (inside : k < d.ring.slots.length) :
    slotAt (makeDraining k d) k = { slotAt d k with state := .draining } := by
  rw [makeDraining_eq inside]
  exact slotAt_set_self inside _ rfl

theorem startDrain_eq {k : Nat} (inside : k < d.ring.slots.length) (free : d.ring.draining = none) :
    startDrain k d = drainStarted k { slotAt d k with state := .draining } d := by
  rw [startDrain, endDrain_none free, makeDraining_eq (by simpa using inside), openRecord_eq (frame := (slotAt d k).frame), drainStarted]
  · simp only [applyPending_ring, applyPending_port, applyPending_arbiter, applyPending_checker, applyPending_map, applyPending_engine,
      applyPending_delivery, applyPending_reports, applyPending_link, applyPending_geometry]
    simp only [slotAt, applyPending_ring]
  · rw [slotAt_set_self inside _ (by rw [applyPending_ring])]
    simp only [slotAt, applyPending_ring]

theorem overtakeDrain_eq {k : Nat} (inside : k < d.ring.slots.length) (free : d.ring.draining = none) :
    overtakeDrain k d = raise .overtake (drainStarted k { slotAt d k with
      state := .draining, flags := { (slotAt d k).flags with overtake := true }, uncheckedFrom := uncheckedLine d } d) := by
  have unchecked : uncheckedLine (applyPending d) = uncheckedLine d := by simp [uncheckedLine]
  rw [overtakeDrain, endDrain_none free]
  simp only [unchecked]
  rw [modifySlot_eq, slotAt_makeDraining (by simpa using inside), makeDraining_eq (by simpa using inside),
    openRecord_eq (frame := (slotAt d k).frame), drainStarted]
  · simp only [applyPending_ring, applyPending_port, applyPending_arbiter, applyPending_checker, applyPending_map, applyPending_engine,
      applyPending_delivery, applyPending_reports, applyPending_link, applyPending_geometry, List.set_set]
    simp only [slotAt, applyPending_ring]
  · refine (congrArg SlotEntry.frame (slotAt_set_self (k := k) (l := (applyPending d).ring.slots) (by simpa using inside) _ (by
      rw [List.set_set]))).trans ?_
    simp only [slotAt, applyPending_ring]

/-- The control unit at a drain start (R164). -/
theorem applyPending_control (d : Device) : (applyPending d).control = if d.control.settingsPending then
    { d.control with repair := clampRepair d.control.staged, settingsPending := false } else d.control := by
  unfold applyPending
  split <;> rfl

/-! ### A drain's end (R37) -/

theorem noDraining_modifySlot_eq (s : Nat) (f : SlotEntry → SlotEntry) (d : Device) : noDraining (modifySlot s f d) =
    { d with ring := { d.ring with slots := d.ring.slots.set s (f (slotAt d s)), draining := none } } := by
  rw [modifySlot_eq]
  rfl

theorem endDrain_eq {s : Nat} (h : d.ring.draining = some s) : endDrain d = closeRecord { d with ring := { d.ring with
    slots := d.ring.slots.set s { slotAt d s with state := .drained }, draining := none } } := by
  unfold endDrain
  rw [h]
  exact congrArg closeRecord (noDraining_modifySlot_eq s _ d)

/-- A drain's record with a beat still on its way becomes the closing record. -/
theorem closeRecord_waits {r : DrainRecord} (record : d.delivery.record = some r) (closing : d.delivery.closing = none)
    (on : r.inFlight ≠ 0) : closeRecord d =
      { d with delivery := { d.delivery with record := none, closing := some { r with endKind := .complete } } } := by
  simp [closeRecord, record, handOverClosing, closing, on]

/-- With no beat on its way it is handed over at once. -/
theorem closeRecord_reports {r : DrainRecord} (record : d.delivery.record = some r) (closing : d.delivery.closing = none)
    (on : r.inFlight = 0) : closeRecord d = handOverClosing
      { d with delivery := { d.delivery with record := none, closing := some { r with endKind := .complete } } } := by
  simp [closeRecord, record, handOverClosing_none closing, on]

theorem foldQuality_counters (q : Nat) (d : Device) : (foldQuality q d).reports.counters = d.reports.counters := by
  unfold foldQuality
  extract_lets before after e
  split <;> rfl

theorem offerReport_counters (p : FrameReport) (d : Device) : (offerReport p d).reports.counters = d.reports.counters := by
  unfold offerReport
  extract_lets stored
  split_ifs <;> rfl

/-- A complete record counts in the frames drained. -/
theorem handOverRecord_framesDrained {r : DrainRecord} (h : r.endKind = .complete) (d : Device) :
    (handOverRecord r d).reports.counters.framesDrained = min (d.reports.counters.framesDrained + 1) 4294967295 := by
  rw [handOverRecord, report, offerReport_counters, foldQuality_counters,
    show (recordEnding (fillTallies d r)).endKind = .complete from h]
  rfl

/-- A beat that ends the drain: the trailer bytes 4 to 7 of the DRAINING slot's last line (R37). -/
theorem askBeat_ends_iff (a : Nat) (d : Device) : (askBeat a d).ends = true ↔ ∃ s i q, nameAddress d.control.geometry a = .line s i q ∧
    i + 1 = d.control.geometry.lines ∧ 2 * d.control.geometry.samples + 4 ≤ q ∧ q < 2 * d.control.geometry.samples + 8 ∧
    d.ring.draining = some s := by
  unfold askBeat
  extract_lets g
  cases name : nameAddress g a with
  | outside => simp
  | slack s => simp
  | line s i q =>
    dsimp only
    constructor
    · intro ends
      split_ifs at ends with base draining sample draining sample
      all_goals simp only [Bool.and_eq_true, beq_iff_eq, isTail, decide_eq_true_eq] at ends
      · simp only [Bool.and_eq_true, beq_iff_eq] at base
        omega
      · exact ⟨s, i, q, rfl, ends.1, ends.2.1, ends.2.2, draining⟩
    · rintro ⟨s', i', q', same, last, low, high, draining⟩
      obtain ⟨rfl, rfl, rfl⟩ := BeatName.line.inj same
      have base : (i == 0 && q == 0) = false := by
        have : q ≠ 0 := by omega
        simp [this]
      have tail : isSample g q = false := by simp [isSample, g]; omega
      simp [base, draining, tail, isTail, g, last, low, high]

end

end Sys2Proof.Machine

namespace Sys2Proof.Sources

open Sys2Proof.Machine

/-- Settles O49: a slot's state says whether a drain starts, and the beat asked about whether it ends. -/
theorem drainsStartAndEnd : Obligations.DrainsStartAndEnd := by
  refine ⟨fun k d inside free => ⟨fun holds => ?_, fun other => ?_⟩, askBeat_ends_iff, fun k s r ends tag draining record closing inside => ?_,
    fun s r d draining record closing on room => ?_⟩
  · have whole : baseRead k d = drainStarted k { slotAt d k with state := .draining } d ∧ (slotAt d k).state = .filled ∨
        baseRead k d = raise .overtake (drainStarted k { slotAt d k with
          state := .draining, flags := { (slotAt d k).flags with overtake := true }, uncheckedFrom := uncheckedLine d } d) ∧
        (slotAt d k).state = .filling := by
      rcases holds with filled | filling
      · exact .inl ⟨by simp only [baseRead, filled, startDrain_eq inside free], filled⟩
      · exact .inr ⟨by simp only [baseRead, filling, overtakeDrain_eq inside free], filling⟩
    have others : ∀ (e : SlotEntry) (s : Nat), s ≠ k → slotAt (drainStarted k e d) s = slotAt d s := fun e s other => by
      simp [slotAt, drainStarted, List.getD_eq_getElem?_getD, List.getElem?_set_ne (Ne.symm other)]
    obtain ⟨before, here⟩ := uncheckedLine_spec d
    rcases whole with ⟨start, filled⟩ | ⟨start, filling⟩
    · exact ⟨_, _, _, start, slotAt_set_self inside _ rfl, rfl, rfl, fun _ => ⟨rfl, rfl, rfl⟩, by simp [filled], others _, rfl, rfl,
        applyPending_control d, rfl, rfl, rfl, rfl, rfl, rfl⟩
    · exact ⟨_, _, _, start, slotAt_set_self inside _ rfl, rfl, rfl, by simp [filling], fun _ => ⟨rfl, before, here, rfl⟩, others _, rfl, rfl,
        applyPending_control d, rfl, rfl, rfl, rfl, rfl, rfl⟩
  · rcases other with h | h | h <;> simp [baseRead, h]
  · have counted : onRecord (fun r => { r with inFlight := r.inFlight + 1 }) k.device =
        { k.device with delivery := { k.device.delivery with record := some { r with inFlight := r.inFlight + 1 } } } := by
      simp [onRecord, record]
    rw [takeIn, if_pos ends, if_pos (by simpa [Option.isSome_iff_ne_none] using tag), counted]
    refine (endDrain_eq (s := s) ?_).trans (closeRecord_waits (r := { r with inFlight := r.inFlight + 1 }) ?_ ?_ ?_)
    · exact draining
    · rfl
    · exact closing
    · exact Nat.succ_ne_zero _
  · obtain ⟨p, queue, frame, -, kind, -, signature, -⟩ := handOverRecord_queue
      (d := { d with ring := { d.ring with slots := d.ring.slots.set s { slotAt d s with state := .drained }, draining := none },
                     delivery := { d.delivery with record := none, closing := some { r with endKind := .complete } } })
      { r with endKind := .complete } room
    have ended := (endDrain_eq draining).trans (closeRecord_reports (r := r) record closing on)
    refine ⟨p, ?_, ?_, ?_, ?_, frame, kind, signature, ?_⟩
    · rw [ended, handOverClosing_delivery, ← closing]
    · rw [ended]
      simp
    · rw [ended]
      simp
    · rw [ended]
      exact queue
    · rw [ended]
      exact handOverRecord_framesDrained rfl _

end Sys2Proof.Sources
end

section
/-! PROOFS. Grants, transfers started, write beats forwarded, the run's start, expiry (sections 1.2 to 1.7, 2.3, 7.3). -/

namespace Sys2Proof.Machine

section
variable {d : Device} {t : BurnerTransfer}

/-! ### BRD is the data side's alone (R12) -/

theorem grantBurner_brd (d : Device) : (grantBurner d).port.brd = d.port.brd := by
  unfold grantBurner
  extract_lets e
  split
  · rfl
  · split
    · rfl
    · unfold forwardPart
      extract_lets f
      have kept : f.device.port.brd = d.port.brd := congrArg Port.brd (formPart_port ..)
      split <;> exact kept

theorem arbitrate_brd (d : Device) : (arbitrate d).port.brd = d.port.brd := by
  have free : ∀ d, (grantBurnerIfFree d).port.brd = d.port.brd := fun d => by
    unfold grantBurnerIfFree
    split
    · exact grantBurner_brd d
    · rfl
  unfold arbitrate
  split
  · rfl
  · split
    · rw [free, grantEngineIfFree_port]
      rfl
    · rw [grantEngineIfFree_port, free]

/-! ### Grants to the burner (R2, R4, R6, R13) -/

/-- The burner's transfer put on the memory side as one, unchanged. -/
def grantedWhole (t : BurnerTransfer) (d : Device) : Device :=
  { d with
    port := { d.port with transfer := some { t with
      mode := .forwarding, holdAsked := false, inPart := if t.write then [] else List.replicate (t.beats - t.next) none } }
    arbiter := { onBus := some (forwarded t), passOver := false } }

theorem grantBurner_whole (ht : d.port.transfer = some t) (whole : t.write = true ∨ t.unchanged = true) :
    grantBurner d = grantedWhole t d := by
  simp only [grantBurner, ht]
  rw [if_pos (by simpa using whole)]
  rfl

/-- A read that takes no beat of the DRAINING slot and starts no drain is one unchanged part (R6). -/
theorem grantBurner_untouched (ht : d.port.transfer = some t) (read : t.write = false) (some_ : t.next < t.beats)
    (untouched : ∀ k, k < t.beats - t.next → passesUntouched d (t.addr + 4 * t.next + 4 * k)) : grantBurner d = grantedWhole t d := by
  by_cases whole : t.unchanged = true
  · exact grantBurner_whole ht (.inr whole)
  · obtain ⟨device, start, tags, hold⟩ := formPart_untouched (n := t.beats - t.next) (a := t.addr + 4 * t.next) (f := none)
      (d := { d with arbiter := { d.arbiter with passOver := false } }) untouched (.inl rfl)
    simp only [grantBurner, ht]
    rw [if_neg (by simp [read, whole]), forwardPart]
    simp only [start (by omega), device, tags, hold, List.length_replicate]
    simp [grantedWhole, forwarded, read, setBus, setTransfer]

/-- With the memory side free and the engine not claiming, a waiting burner transfer that is granted whole is on the memory side. -/
theorem arbitrate_grantedWhole (bus : d.arbiter.onBus = none) (idle : d.engine.claiming = false) (ht : d.port.transfer = some t)
    (mode : t.mode = .waiting) (granted : grantBurner d = grantedWhole t d) : arbitrate d = grantedWhole t d := by
  rw [arbitrate_burner bus idle (portState_eq_waiting.2 ⟨t, ht, mode⟩), granted, grantEngineIfFree, if_neg (by simp [grantedWhole])]

/-! ### The run's start (R23) -/

/-- In ARMED a line beat but one at the base of a slot does nothing more (R23). -/
theorem takeWriteBeat_armed_elsewhere {first outside : Bool} {a : Nat} (b : Beat) (e : Enables) (armed : d.control.run = .armed)
    (place : ∀ i, nameAddress d.control.geometry a ≠ .line i 0 0) : takeWriteBeat first outside a b e d = d := by
  unfold takeWriteBeat
  split
  · rfl
  · rfl
  · next s i q name =>
    simp only [armed]
    refine if_neg fun base => place s ?_
    simp only [Bool.and_eq_true, beq_iff_eq] at base
    rw [name, base.1.2, base.2]

/-- A beat that is no line's does nothing more (R18, R19). -/
theorem takeWriteBeat_no_line {first outside : Bool} {a : Nat} (b : Beat) (e : Enables)
    (place : ∀ s i q, nameAddress d.control.geometry a ≠ .line s i q) : takeWriteBeat first outside a b e d = d := by
  unfold takeWriteBeat
  split
  · rfl
  · rfl
  · next s i q name => exact absurd name (place s i q)

theorem startRun_repair (s : Nat) (d : Device) : (startRun s d).control.repair = d.control.repair := by
  simp [startRun, setLock, startTable, fillWith, freeSpans]

theorem takeWriteBeat_repair (first outside : Bool) (a : Nat) (b : Beat) (e : Enables) (d : Device) :
    (takeWriteBeat first outside a b e d).control.repair = d.control.repair := by
  unfold takeWriteBeat
  split
  · rfl
  · rfl
  · split
    · rfl
    · split
      · rw [wakeEngine_control, checkBeat_control, startRun_repair]
      · rfl
    · rw [wakeEngine_control, runningBeat_control]

/-! ### A slot's first beat (R54, R56) -/

/-- The checker with line 0 just opened by a beat of full enables. -/
def firstLineOpen (g : Geometry) (b : Beat) : Checker :=
  { context := some { line := 0, next := 4, crc := crc16 0xFFFF (beatBytes b), illegal := illegalWords g b, stored := none }
    table := (List.replicate g.lines .unwritten).set 0 .lineOpen }

theorem checkBeat_startTable {e : Enables} (lines : 0 < d.control.geometry.lines) (full : e = ⟨true, true, true, true⟩) (k : Nat)
    (b : Beat) : checkBeat k 0 0 b e (startTable d) = { d with checker := firstLineOpen d.control.geometry b } := by
  have enabled : fullEnables d.control.geometry 0 e = true := by simp [fullEnables, isTail, full]
  have unwritten : statusOf (startTable d) 0 = .unwritten := by
    simp [statusOf, startTable, Checker.start, List.getD_eq_getElem?_getD, lines]
  have begun_ : checkBeat k 0 0 b e (startTable d) = startBeat k 0 0 b (fullEnables d.control.geometry 0 e) (startTable d) := rfl
  rw [begun_, startBeat, unwritten, enabled]
  simp only [and_self, if_true, setContext, setStatus, takeSampleBeat, Nat.zero_add]
  rw [modifyAt_eq_set _ _ _ .unwritten]
  rfl

theorem setSpans_eq (s : Nat) (l : List Span) (d : Device) : setSpans s l d = { d with map := { d.map with spans := d.map.spans.set s l } } := by
  rw [setSpans, modifyAt_eq_set _ _ _ []]

/-- An engine with an empty order and no job does not keep the slot from being freed. -/
theorem freeSpans_idle (idle : d.engine = Engine.start) (k : Nat) :
    freeSpans k d = { d with map := { d.map with spans := d.map.spans.set k [] } } := by
  have stays : abortJobOf k d = d := abortJobOf_other (by simp [idle, Engine.start])
  rw [freeSpans, stays, setSpans_eq, leaveOrder]
  simp [idle, Engine.start]

/-- Slot k FILLING a frame, its flags clear but OVERWRITTEN (R27). -/
def fillingEntry (frame : BitVec 32) (overwritten : Bool) : SlotEntry :=
  { state := .filling, frame := frame, flags := { SlotFlags.clear with overwritten := overwritten }, uncheckedFrom := 0 }

theorem fillWith_eq (k : Nat) (overwritten : Bool) (d : Device) : fillWith k overwritten d = { d with ring := { d.ring with
    slots := d.ring.slots.set k (fillingEntry d.ring.nextFrame overwritten), nextFrame := d.ring.nextFrame + 1,
    fillSlot := some k, fillOpen := true } } := by
  simp only [fillWith]
  rw [modifySlot_eq]
  rfl

/-- The part after the run's start on slot k, but for the checker's table (R23). -/
theorem startRun_eq (idle : d.engine = Engine.start) (k : Nat) : startRun k d = startTable { d with
    control := { d.control with run := .running }
    ring := { d.ring with slots := d.ring.slots.set k (fillingEntry 0 false), lock := some .locked, fillSlot := some k, fillOpen := true,
                          draining := none, nextFrame := 1 }
    map := { d.map with spans := d.map.spans.set k [] } } := by
  simp only [startRun]
  rw [freeSpans_idle (by exact idle), fillWith_eq]
  rfl

/-! ### Decided lines and charged holds (R125, R131, R134, R135) -/

theorem entryOf_fixEntry_self {i : Nat} {r : DrainRecord} (inside : i < r.lines.length) (d : Device) (x : LineEntry) :
    entryOf (fixEntry d i x r) i = x := by
  simp only [entryOf, fixEntry, List.getD_eq_getElem?_getD, mapFrom_getElem?, Nat.zero_add, List.getElem?_eq_getElem inside, if_true,
    Option.map_some, Option.getD_some]

theorem fixEntry_position {i : Nat} {r : DrainRecord} (above : positionAtLeast r.position i = false) (d : Device) (x : LineEntry) :
    (fixEntry d i x r).position = some i := by
  simp [fixEntry, above]

theorem countDecision_holdExpiries (s i : Nat) (x : LineEntry) (d : Device) :
    (countDecision s i x d).reports.counters.holdExpiries = d.reports.counters.holdExpiries := by
  unfold countDecision
  split_ifs <;> cases x <;> rfl

/-- A charge that takes the allowance left below the budget raises ALLOWANCE_SPENT (R135). -/
theorem chargeHold_link {r : DrainRecord} (record : d.delivery.record = some r) (c : Nat) : (chargeHold c d).link =
    { d.link with causes := if r.holdBudget ≤ r.allowanceLeft ∧ r.allowanceLeft - c < r.holdBudget then d.link.causes ||| 0x200
                            else d.link.causes } := by
  simp only [chargeHold, record, chargeSpends, Bool.and_eq_true, decide_eq_true_eq]
  split <;> rfl

theorem expireHold_eq {h : HeldRead} {r : DrainRecord} (held : d.delivery.held = some h) (record : d.delivery.record = some r) :
    expireHold d = releasePort (dropHold (settleLine r.slot h.line (redirectOrDamage d r h.line)
      (bump .holdExpiries (chargeHold r.holdBudget d)))) := by
  simp only [expireHold, held, record]

end

end Sys2Proof.Machine

namespace Sys2Proof.Transfers

open Sys2Proof.Machine

/-- Settles O32: the port takes the transfer, and the arbiter grants it whole if nothing is in its way. -/
theorem transfersStart : Obligations.TransfersStart := by
  intro w a n s aligned fits idle
  have goes : exec (.burnerTransferStart w a n) s = .next (s.onDevice (startTransfer w a n)) :=
    exec_of_guard (c := .burnerTransferStart w a n) ⟨by simp [transferFits, aligned, Config.memorySize, fits], idle⟩
  have begun_ : newTransfer w a n s.control.run = begun s w a n .waiting [] := rfl
  refine ⟨⟨_, goes, ?_, ?_, ?_, ?_, ?_⟩, fun busy => ?_, fun bus claim whole => ?_⟩
  · simp [State.onDevice]
  · exact arbitrate_brd _
  · simp [State.onDevice, startTransfer]
  · simp [State.onDevice, startTransfer]
  · simp [State.onDevice]
  · rw [goes, State.onDevice, startTransfer, arbitrate_busy (by simpa using busy), begun_]
    rfl
  · refine ⟨_, _, ?_, rfl, rfl⟩
    have granted : grantBurner (setTransfer (some (begun s w a n .waiting [])) s.toDevice) =
        grantedWhole (begun s w a n .waiting []) (setTransfer (some (begun s w a n .waiting [])) s.toDevice) := by
      cases w with
      | true => exact grantBurner_whole rfl (.inl rfl)
      | false =>
        by_cases run : s.control.run = .running
        · refine grantBurner_untouched rfl rfl (Nat.succ_pos _) fun k hk => ?_
          have untouched := (whole.resolve_left (by simp)).resolve_left (by simp [run])
          exact untouched k (Nat.le_of_lt_succ hk)
        · exact grantBurner_whole rfl (.inr (by simp [begun, run]))
    rw [goes, State.onDevice, startTransfer, begun_, arbitrate_grantedWhole (d := setTransfer (some (begun s w a n .waiting [])) s.toDevice)
      (t := begun s w a n .waiting []) bus claim rfl rfl granted]
    rfl

/-- Settles O35: the beat is counted by the port, and what follows keeps to the blocks of ring, checker, map, engine and reports. -/
theorem writeBeatsAreForwarded : Obligations.WriteBeatsAreForwarded := by
  intro b e s u ht write mode left
  have goes : exec (.writeBeatAccepted b e) s = .next (s.onDevice (acceptWrite b e)) :=
    exec_of_guard (c := .writeBeatAccepted b e) (by simp [Machine.guard, writeBeatDue, ht, write, mode, left])
  have accepts : acceptWrite b e s.toDevice =
      takeWriteBeat (u.next == 0) u.outside (u.addr + 4 * u.next) b e (acceptBeat u b e s.toDevice) := by simp [acceptWrite, ht]
  rw [goes, State.onDevice, accepts]
  refine ⟨⟨_, rfl, ?_, fun m bus by_ => ?_, ?_, ?_, ?_, ?_, ?_, ?_⟩, fun passes => ?_⟩
  · exact takeWriteBeat_port ..
  · exact ((SideKept.refl _).takeWriteBeat _ _ _ _ _).burner m bus by_
  · exact takeWriteBeat_staged ..
  · exact takeWriteBeat_repair ..
  · exact takeWriteBeat_geometry ..
  · exact takeWriteBeat_enables ..
  · exact takeWriteBeat_requestBad ..
  · exact takeWriteBeat_holder ..
  · have stays : takeWriteBeat (u.next == 0) u.outside (u.addr + 4 * u.next) b e (acceptBeat u b e s.toDevice) =
        acceptBeat u b e s.toDevice := by
      rcases passes with off | ⟨armed, outside | later | elsewhere⟩ | elsewhere
      · exact takeWriteBeat_off _ _ _ _ _ off
      · exact takeWriteBeat_armed _ _ _ armed (.inl outside)
      · exact takeWriteBeat_armed _ _ _ armed (.inr (by simpa using later))
      · exact takeWriteBeat_armed_elsewhere b e armed elsewhere
      · exact takeWriteBeat_no_line b e elsewhere
    rw [stays]
    rfl

/-- Settles O36: slot k is filled with frame 0, and the checker, on a new table, opens line 0. -/
theorem firstWriteStartsTheRun : Obligations.FirstWriteStartsTheRun := by
  intro b e s u k ht write mode first beats inside armed idle name lines samples full
  have goes : exec (.writeBeatAccepted b e) s = .next (s.onDevice (acceptWrite b e)) :=
    exec_of_guard (c := .writeBeatAccepted b e) (by simp [Machine.guard, writeBeatDue, ht, write, mode, first, beats])
  have accepts : acceptWrite b e s.toDevice = wakeEngine (checkBeat k 0 0 b e (startRun k (acceptBeat u b e s.toDevice))) := by
    have base : nameAddress (acceptBeat u b e s.toDevice).control.geometry (u.addr + 4 * u.next) = .line k 0 0 := by
      rw [first]
      exact name
    have run : (acceptBeat u b e s.toDevice).control.run = .armed := armed
    simp only [acceptWrite, ht, takeWriteBeat, base, run]
    rw [if_pos (by simp [first, inside])]
  rw [goes, State.onDevice, accepts, startRun_eq (d := acceptBeat u b e s.toDevice) idle, checkBeat_startTable (e := e) ?_ full, wakeEngine_nil]
  · exact ⟨_, rfl, rfl, rfl, rfl, rfl, rfl, rfl, rfl, rfl, rfl⟩
  · exact congrArg Engine.order idle
  · exact lines

/-- Settles O43: the hold is charged, its line settled by rows 5 to 7, the port released, and a taken memory side stays taken. -/
theorem holdsExpire : Obligations.HoldsExpire := by
  refine ⟨fun s none => ?_, fun s h r u held record ht mode busy inside above => ?_⟩
  · rw [exec_of_guard (c := .holdExpiry) trivial]
    simp [State.onDevice, effect, none]
  · have goes : exec .holdExpiry s = .next (s.onDevice expireHold) := by
      have busy' : (expireHold s.toDevice).arbiter.onBus ≠ none := by
        rw [expireHold_eq held record]
        simpa using busy
      rw [exec_of_guard (c := .holdExpiry) trivial]
      simp only [State.onDevice, effect, held, Option.isSome_some, if_true, expireAndGrant]
      rw [arbitrate_busy busy']
    have delivery : (expireHold s.toDevice).delivery = { s.delivery with
        record := some (fixEntry (bump .holdExpiries (chargeHold r.holdBudget s.toDevice)) h.line
          (redirectOrDamage s.toDevice r h.line) (chargeRecord r.holdBudget r))
        held := none } := by
      rw [expireHold_eq held record]
      simp [dropHold, settleLine_delivery, chargeHold_delivery record]
    have entry := entryOf_fixEntry_self (r := chargeRecord r.holdBudget r) inside
      (bump .holdExpiries (chargeHold r.holdBudget s.toDevice)) (redirectOrDamage s.toDevice r h.line)
    refine ⟨_, _, goes, congrArg Delivery.held delivery, congrArg Delivery.record delivery, rfl, rfl, 
      fixEntry_position (r := chargeRecord r.holdBudget r) above (bump .holdExpiries (chargeHold r.holdBudget s.toDevice))
        (redirectOrDamage s.toDevice r h.line),
      fun usable => ?_, fun unusable j source => ?_, fun unusable none => ?_, ?_, ?_, ?_, ?_⟩
    · rw [entry, redirectOrDamage, if_pos usable]
      rfl
    · rw [entry, redirectOrDamage, if_neg (by simp [unusable]), source]
    · rw [entry, redirectOrDamage, if_neg (by simp [unusable]), none]
    · show (expireHold s.toDevice).reports.counters.holdExpiries = _
      rw [expireHold_eq held record, releasePort_reports, dropHold_reports, settleLine, countDecision_holdExpiries]
      show (bump .holdExpiries (chargeHold r.holdBudget s.toDevice)).reports.counters.holdExpiries = _
      rw [← chargeHold_reports r.holdBudget s.toDevice]
      rfl
    · show (expireHold s.toDevice).port = _
      rw [expireHold_eq held record]
      simp [releasePort, releaseTransfer, ht, mode]
    · show (expireHold s.toDevice).link = _
      rw [expireHold_eq held record, ← chargeHold_link record]
      simp
    · simp only [State.onDevice, expireHold_eq held record]
      simp

end Sys2Proof.Transfers
end

section
/-! PROOFS. Transfers that complete, and the grant that follows (sections 1.2 to 1.8). -/

namespace Sys2Proof.Machine

section
variable {d : Device} {s : State} {m : MemTransfer} {l : List Beat} {j k : Job} {u : BurnerTransfer}

/-! ### A completion goes on (R1, R13) -/

theorem exec_completes (bus : s.arbiter.onBus = some m) (data : l.length = if m.byEngine = true ∧ m.write = false then m.beats else 0)
    (passed : m.byEngine = true ∨ ∀ u, s.port.transfer = some u → u.mode = .forwarding →
      (u.write = true → u.beats ≤ u.next) ∧ (u.write = false → u.inPart = [])) :
    exec (.memoryTransferComplete l) s = .next (s.onDevice (completeTransfer m l)) := by
  have none_left : beatsOutstanding m s.toDevice = false := by
    unfold beatsOutstanding
    rcases passed with by_ | passed
    · simp [by_]
    · cases ht : s.port.transfer with
      | none => simp
      | some u =>
        by_cases mode : u.mode = .forwarding
        · obtain ⟨written, returned⟩ := passed u ht mode
          cases hw : u.write with
          | true => simp [hw, written hw]
          | false => simp [hw, returned hw]
        · simp [mode]
  rw [exec_of_guard (c := .memoryTransferComplete l) ⟨m, bus, none_left, by simpa [fetchedBeats] using data⟩]
  simp [State.onDevice, effect, bus]

/-- A completion of the engine's transfer. -/
theorem exec_completes_engine (bus : s.arbiter.onBus = some m) (by_ : m.byEngine = true)
    (data : l.length = if m.write then 0 else m.beats) :
    exec (.memoryTransferComplete l) s = .next (s.onDevice (completeTransfer m l)) :=
  exec_completes bus (by rw [data]; cases m.write <;> simp [by_]) (.inl by_)

/-! ### The engine's runs (R106) -/

/-- The job after a transfer of its run. -/
def jobAfter (m : MemTransfer) (l : List Beat) (j : Job) : Job :=
  { j with next := j.next + 4 * m.beats, fetched := j.fetched ++ beatsBytes l,
           lanes := if m.write then j.lanes.drop (4 * m.beats) else j.lanes }

theorem testTransfer_run (phase : j.phase = .storedRead ∨ j.phase = .writeBack) (d : Device) :
    testTransfer j d = claimBus (setJob j d) := by
  rcases phase with phase | phase <;> simp only [testTransfer, phase]

theorem engineCompletion_eq (job : d.engine.job = some j) : engineCompletion m l d = wakeEngine
    (if (jobAfter m l j).next < j.stop then testTransfer (jobAfter m l j) (setJob (jobAfter m l j) d)
      else finishRun (jobAfter m l j) (setJob (jobAfter m l j) d)) := by
  simp only [engineCompletion, job]
  rfl

/-- Within the stored read and the write-back the run's next transfer is claimed. -/
theorem engineCompletion_goesOn (job : d.engine.job = some j) (phase : j.phase = .storedRead ∨ j.phase = .writeBack)
    (more : j.next + 4 * m.beats < j.stop) : engineCompletion m l d = claimBus (setJob (jobAfter m l j) d) := by
  rw [engineCompletion_eq job, if_pos (by exact more), testTransfer_run (j := jobAfter m l j) phase, wakeEngine_busy rfl]
  rfl

/-- The engine's part of a grant within a run. -/
def grantedEngine (k : Job) (d : Device) : Device :=
  { d with engine := { d.engine with claiming := false }, arbiter := { d.arbiter with onBus := some (engineTransfer k) } }

/-- A claim within the stored read or the write-back is granted as it is. -/
theorem grantEngine_run (job : d.engine.job = some k) (phase : k.phase = .storedRead ∨ k.phase = .writeBack)
    (claims : d.engine.claiming = true) : grantEngine d = grantedEngine k d := by
  have same : claimBus (setJob k d) = d := by
    simp only [claimBus, setJob, ← job, ← claims]
  have retest : retestEngine d = d := by
    simp only [retestEngine, job]
    rw [testTransfer_run phase, same, wakeEngine_busy job]
  simp only [grantEngine, retest, claims, if_true, issueEngine, job, grantedEngine, setBus]

theorem grantEngineIfFree_idle (idle : d.engine.claiming = false) : grantEngineIfFree d = d := by
  simp [grantEngineIfFree, idle]

theorem grantEngineIfFree_busy (busy : d.arbiter.onBus ≠ none) : grantEngineIfFree d = d := by
  simp [grantEngineIfFree, busy]

theorem grantBurnerIfFree_busy (busy : d.arbiter.onBus ≠ none) : grantBurnerIfFree d = d := by
  simp [grantBurnerIfFree, busy]

/-- With the memory side free and the burner's claim waiting, not to be passed over, the burner's is granted first (R14). -/
theorem arbitrate_burner_first (bus : d.arbiter.onBus = none) (waits : portState d = .waiting) (pass : passesOver d = false) :
    arbitrate d = grantEngineIfFree (grantBurner d) := by
  simp [arbitrate, grantBurnerIfFree, burnerClaim, bus, waits, pass]

/-- With the memory side free and both claims waiting, the engine's is granted first where the burner's may be passed over (R14). -/
theorem arbitrate_engine_first (bus : d.arbiter.onBus = none) (job : d.engine.job = some k)
    (phase : k.phase = .storedRead ∨ k.phase = .writeBack) (claims : d.engine.claiming = true) (waits : portState d = .waiting)
    (pass : passesOver d = true) : arbitrate d = grantedEngine k (markPassOver d) := by
  have granted : grantEngineIfFree (markPassOver d) = grantedEngine k (markPassOver d) := by
    rw [grantEngineIfFree, if_pos (by simp [markPassOver, bus, claims])]
    exact grantEngine_run job phase claims
  have first : arbitrate d = grantBurnerIfFree (grantEngineIfFree (markPassOver d)) := by
    simp [arbitrate, burnerClaim, bus, claims, waits, pass]
  rw [first, granted, grantBurnerIfFree_busy (by simp [grantedEngine])]

/-- A grant to the burner clears the pass-over mark (R14). -/
theorem grantBurner_passOver (ht : d.port.transfer = some u) : (grantBurner d).arbiter.passOver = false := by
  simp only [grantBurner, ht]
  split
  · rfl
  · unfold forwardPart
    extract_lets f
    have kept : f.device.arbiter.passOver = false := congrArg Arbiter.passOver (formPart_arbiter ..)
    split <;> exact kept

/-! ### What a completion does before the grant (R1, R8, R10, R13) -/

/-- The part with the memory side free and the burner's transfer as given. -/
def withPartDone (o : Option BurnerTransfer) (d : Device) : Device :=
  { d with port := { d.port with transfer := o }, arbiter := { d.arbiter with onBus := none } }

theorem completeTransfer_burner (by_ : m.byEngine = false) (ht : d.port.transfer = some u) : completeTransfer m l d =
    arbitrate (withPartDone (afterPart u) d) := by
  simp [completeTransfer, by_, completeBurner, ht, setBus, setTransfer, withPartDone]

theorem completeTransfer_orphan (by_ : m.byEngine = true) (orphan : m.orphan = true) : completeTransfer m l d = arbitrate (setBus none d) := by
  simp [completeTransfer, by_, orphan]

theorem completeTransfer_engine (by_ : m.byEngine = true) (alive : m.orphan = false) :
    completeTransfer m l d = arbitrate (engineCompletion m l (setBus none d)) := by
  simp [completeTransfer, by_, alive]

/-- Within the stored read and the write-back, before the grant: the memory side free, the run's next transfer claimed. -/
theorem completeTransfer_goesOn (by_ : m.byEngine = true) (alive : m.orphan = false) (job : d.engine.job = some j)
    (phase : j.phase = .storedRead ∨ j.phase = .writeBack) (more : j.next + 4 * m.beats < j.stop) :
    completeTransfer m l d = arbitrate (claimBus (setJob (jobAfter m l j) (setBus none d))) := by
  rw [completeTransfer_engine by_ alive, engineCompletion_goesOn (d := setBus none d) job phase more]

theorem releaseByWriteBack_brd (t i : Nat) (d : Device) : (releaseByWriteBack t i d).port.brd = d.port.brd := by
  unfold releaseByWriteBack
  split
  · split <;> simp
  · rfl

theorem finishRun_brd (j : Job) (d : Device) : (finishRun j d).port.brd = d.port.brd := by
  unfold finishRun
  extract_lets
  split
  · simp
  · simp
  · simp
  · unfold finishWriteBack
    extract_lets d1 d2
    have same : d2.port = d.port := by
      simp only [d2, d1]
      split <;> simp [tallyLine]
    rw [beginLines_port, releaseByWriteBack_brd, same]
  · rfl

theorem engineCompletion_brd (m : MemTransfer) (l : List Beat) (d : Device) : (engineCompletion m l d).port.brd = d.port.brd := by
  cases job : d.engine.job with
  | none => simp [engineCompletion, job]
  | some j =>
    rw [engineCompletion_eq job, wakeEngine_port]
    split
    · rw [testTransfer_port, setJob_port]
    · rw [finishRun_brd, setJob_port]

/-- What a completion leaves alone. -/
theorem completeTransfer_frames (m : MemTransfer) (l : List Beat) (d : Device) : (completeTransfer m l d).checker = d.checker ∧
    (completeTransfer m l d).port.brd = d.port.brd ∧ (completeTransfer m l d).control.staged = d.control.staged ∧
    (completeTransfer m l d).control.geometry = d.control.geometry ∧ (completeTransfer m l d).link.enables = d.link.enables := by
  unfold completeTransfer
  extract_lets e
  simp only [arbitrate_checker, arbitrate_brd, arbitrate_staged, arbitrate_geometry, arbitrate_enables]
  split
  · split
    · exact ⟨rfl, rfl, rfl, rfl, rfl⟩
    · rw [engineCompletion_checker, engineCompletion_brd, engineCompletion_control, engineCompletion_enables]
      exact ⟨rfl, rfl, rfl, rfl, rfl⟩
  · exact ⟨rfl, rfl, rfl, rfl, rfl⟩

end

end Sys2Proof.Machine

namespace Sys2Proof.Transfers

open Sys2Proof.Machine

/-- Settles O42: who issued the transfer, what is left of it, and who is granted next. -/
theorem transfersComplete : Obligations.TransfersComplete := by
  refine ⟨fun s m l bus data passed => ⟨_, exec_completes bus data passed, ?_⟩, fun s m u bus by_ ht done part claim => ?_,
    fun s m l bus by_ orphan data claim port => ?_, fun s m l j bus by_ alive data job phase more port => ⟨_, _, ?_, rfl, rfl⟩,
    fun s m u bus by_ ht mode read left part claim => ?_⟩
  · exact completeTransfer_frames m l s.toDevice
  · have after : afterPart u = none := by simp [afterPart, done]
    rw [exec_completes bus (by simp [by_]) (.inr fun v hv _ => ?_), State.onDevice, completeTransfer_burner by_ ht, after,
      arbitrate_idle (d := withPartDone none s.toDevice) claim (by simp [portState, withPartDone])]
    · rfl
    · obtain rfl := Option.some.inj (ht.symm.trans hv)
      exact ⟨fun _ => done, fun _ => part⟩
  · rw [exec_completes_engine bus by_ data, State.onDevice, completeTransfer_orphan by_ orphan,
      arbitrate_idle (d := setBus none s.toDevice) claim port]
    rfl
  · rw [exec_completes_engine bus by_ data, State.onDevice, completeTransfer_goesOn by_ alive job phase more,
      arbitrate_engine (d := claimBus (setJob (jobAfter m l j) (setBus none s.toDevice))) rfl rfl port,
      grantEngine_run (k := jobAfter m l j) rfl phase rfl]
    rfl
  · have goes : exec (.memoryTransferComplete []) s = .next (s.onDevice (completeTransfer m [])) := by
      refine exec_completes bus (by simp [by_]) (.inr fun v hv _ => ?_)
      obtain rfl := Option.some.inj (ht.symm.trans hv)
      exact ⟨by simp [read], fun _ => part⟩
    rw [goes, State.onDevice, completeTransfer_burner by_ ht]
    refine ⟨fun asked => ?_, fun unasked whole => ?_, fun unasked formed => ?_⟩
    · have after : afterPart u = some { u with mode := .held, holdAsked := false } := by
        simp [afterPart, left.not_ge, asked, part]
      rw [after, arbitrate_idle (d := withPartDone _ s.toDevice) claim (by simp [portState, withPartDone])]
      rfl
    · have after : afterPart u = some { u with mode := .waiting } := by simp [afterPart, left.not_ge, unasked, part]
      rw [after, arbitrate_grantedWhole (d := withPartDone (some { u with mode := .waiting }) s.toDevice) (t := { u with mode := .waiting })
        rfl claim rfl rfl (grantBurner_whole rfl (.inr whole))]
      simp [grantedWhole, withPartDone, onMemorySide, forwarded, read, mode, unasked]
    · have after : afterPart u = some { u with mode := .waiting } := by simp [afterPart, left.not_ge, unasked, part]
      rw [after, arbitrate_burner (d := withPartDone (some { u with mode := .waiting }) s.toDevice) rfl claim
        (portState_eq_waiting.2 ⟨_, rfl, rfl⟩), grantEngineIfFree_idle (by rw [grantBurner_engine]; exact claim)]
      rfl

/-- Settles O34: whether the burner's claim may be passed over, and whose claim is then granted first. -/
theorem bothClaimsAreOrdered : Obligations.BothClaimsAreOrdered := by
  intro s m l j k u bus by_ alive data job phase more ht mode hk
  obtain rfl : k = jobAfter m l j := hk
  have goes := exec_completes_engine bus by_ data
  rw [State.onDevice, completeTransfer_goesOn by_ alive job phase more] at goes
  let d := claimBus (setJob (jobAfter m l j) (setBus none s.toDevice))
  have waits : portState d = .waiting := portState_eq_waiting.2 ⟨u, ht, mode⟩
  have urgent : passesOver d = true ↔ u.write = true ∧ (s.control.repair.urgentPrecedence = true ∧ s.arbiter.passOver = false ∧
      ((slotAt s.toDevice j.slot).state = .draining ∨
        ((slotAt s.toDevice j.slot).frame - s.ring.drainFrame).toNat ≤ s.control.repair.urgency)) := by
    have active : activeUrgent d = ((slotAt s.toDevice j.slot).state == .draining ||
        decide (((slotAt s.toDevice j.slot).frame - s.ring.drainFrame).toNat ≤ s.control.repair.urgency)) := rfl
    have claim : d.port.transfer.elim false BurnerTransfer.write = u.write := by rw [show d.port.transfer = some u from ht]; rfl
    rw [passesOver, active, claim]
    simp only [Bool.and_eq_true, Bool.or_eq_true, beq_iff_eq, decide_eq_true_eq, Bool.not_eq_true']
    exact ⟨fun ⟨⟨⟨on, near⟩, write⟩, clear⟩ => ⟨write, on, clear, near⟩, fun ⟨write, on, clear, near⟩ => ⟨⟨⟨on, near⟩, write⟩, clear⟩⟩
  refine ⟨_, Iff.rfl, fun write urg => ?_, fun write calm => ?_, fun read whole => ?_, fun read => ?_⟩
  · rw [goes, arbitrate_engine_first (d := d) rfl rfl phase rfl waits (urgent.2 ⟨write, urg⟩)]
    rfl
  · have pass : passesOver d = false := by
      rw [Bool.eq_false_iff]
      exact fun h => calm (urgent.1 h).2
    rw [goes, arbitrate_burner_first (d := d) rfl waits pass, grantBurner_whole (d := d) ht (.inl write),
      grantEngineIfFree_busy (by simp [grantedWhole])]
    simp only [grantedWhole, write, if_true]
    rfl
  · have pass : passesOver d = false := by
      rw [Bool.eq_false_iff]
      exact fun h => by simpa [read] using (urgent.1 h).1
    rw [goes, arbitrate_burner_first (d := d) rfl waits pass, grantBurner_whole (d := d) ht (.inr whole),
      grantEngineIfFree_busy (by simp [grantedWhole])]
    simp only [grantedWhole, read]
    rfl
  · have pass : passesOver d = false := by
      rw [Bool.eq_false_iff]
      exact fun h => by simpa [read] using (urgent.1 h).1
    rw [goes, arbitrate_burner_first (d := d) rfl waits pass]
    obtain ⟨engine, granted⟩ := grantBurner_cases (d := d) ht
    have mark : (grantBurner d).arbiter.passOver = false := grantBurner_passOver ht
    rcases granted with ⟨v, hv, held, free⟩ | ⟨v, x, hv, forwards, hx, burner⟩
    · have job' : (grantBurner d).engine.job = some (jobAfter m l j) := congrArg Engine.job engine
      have claims : (grantBurner d).engine.claiming = true := congrArg Engine.claiming engine
      have bus' : (grantBurner d).arbiter.onBus = none := free
      rw [grantEngineIfFree, if_pos (by rw [bus', claims]; rfl), grantEngine_run job' phase claims]
      exact ⟨_, v, _, rfl, mark, hv, rfl, .inr ⟨held, rfl⟩⟩
    · rw [grantEngineIfFree_busy (by simp [hx])]
      exact ⟨_, v, x, rfl, mark, hv, hx, .inl ⟨forwards, burner⟩⟩

end Sys2Proof.Transfers
end

section
/-! PROOFS. Reads of the DRAINING slot: decided, formed, split and held (sections 1.4, 1.5, 7.1 and 7.2). -/

namespace Sys2Proof.Machine

/-! ### The shape of a forming (R7) -/

theorem formPart_shape (n a : Nat) (f : Option Nat) (d : Device) : (formPart n a f d).tags.length ≤ n ∧
    ((formPart n a f d).hold = true → (formPart n a f d).tags.length < n) ∧
    ((formPart n a f d).start = none ↔ (formPart n a f d).tags = []) := by
  induction n generalizing a f d with
  | zero => simp [formPart]
  | succ n ih =>
    unfold formPart
    extract_lets k
    split
    · simp
    · next m _ =>
      split
      · obtain ⟨most, short, -⟩ := ih (a + 4) (some (m + 4)) (takeIn k)
        exact ⟨Nat.succ_le_succ most, fun hold => Nat.succ_lt_succ (short hold), by simp⟩
      · simp

/-! ### A line's beats (R6, R127) -/

section
variable {d : Device} {x : DrainRecord} {a i q n : Nat} {e : LineEntry}

/-- The beats of line i from line offset q on are the DRAINING slot's: its record is x, and address a names the first of n beats. -/
structure OnDrainLine (d : Device) (x : DrainRecord) (i q a n : Nat) : Prop where
  record : d.delivery.record = some x
  draining : d.ring.draining = some x.slot
  state : (slotAt d x.slot).state = .draining
  names : ∀ k, k < n → nameAddress d.control.geometry (a + 4 * k) = .line x.slot i (q + 4 * k)

/-- A beat of the DRAINING slot starts no drain. -/
theorem OnDrainLine.baseRead (h : OnDrainLine d x i q a n) : baseRead x.slot d = d := by
  simp only [Machine.baseRead, h.state]

theorem askBeat_drain (h : OnDrainLine d x i q a (n + 1)) : askBeat a d =
    if isSample d.control.geometry q then
      { device := (askSample i q d).1, treatment := (askSample i q d).2.getD (.readAt a), tag := some { line := i, offset := q },
        ends := false }
    else { device := d, treatment := .readAt a, tag := some { line := i, offset := q },
           ends := i + 1 == d.control.geometry.lines && isTail d.control.geometry q } := by
  have name : nameAddress d.control.geometry a = .line x.slot i q := h.names 0 (Nat.succ_pos n)
  have same : (if i == 0 && q == 0 then Machine.baseRead x.slot d else d) = d := by rw [h.baseRead, ite_self]
  simp only [askBeat, name, same, h.draining, if_true]

/-- The answer to a sample beat whose line is decided. -/
theorem askBeat_decided (h : OnDrainLine d x i q a (n + 1)) (sample : q < 2 * d.control.geometry.samples)
    (decided : undecided (entryOf x i) = false) : askBeat a d =
      { device := d, treatment := entryTreatment d x i q, tag := some { line := i, offset := q }, ends := false } := by
  have asked : askSample i q d = (d, some (entryTreatment d x i q)) := by simp [askSample, h.record, decided]
  rw [askBeat_drain h, if_pos (by simpa [isSample] using sample), asked]
  rfl

/-- An entry that is no Hold reads at the sample address it gives. -/
theorem entryTreatment_eq (entry : entryOf x i = e) (free : e ≠ .held) (q : Nat) :
    entryTreatment d x i q = .readAt (sampleAddress d x i q e) := by
  unfold entryTreatment sampleAddress
  extract_lets g own
  split
  · rfl
  · rw [entry]
    cases e with
    | held => exact absurd rfl free
    | _ => rfl

theorem sampleAddress_add (d : Device) (x : DrainRecord) (i q c : Nat) (e : LineEntry) :
    sampleAddress d x i (q + c) e = sampleAddress d x i q e + c := by
  unfold sampleAddress lineAddress
  split
  · omega
  · split <;> omega

/-- The part with n more beats of the record on their way. -/
def withOnWay (n : Nat) (x : DrainRecord) (d : Device) : Device :=
  { d with delivery := { d.delivery with record := some { x with inFlight := x.inFlight + n } } }

theorem lineTags_succ (i q n : Nat) : lineTags i q (n + 1) = some { line := i, offset := q } :: lineTags i (q + 4) n := by
  simp only [lineTags, List.range_succ_eq_map, List.map_cons, List.map_map]
  congr 1
  refine List.map_congr_left fun k _ => ?_
  simp only [Function.comp_apply, Option.some.injEq, BeatTag.mk.injEq, true_and]
  omega

/-- A record with one more beat on its way. -/
def oneOnWay (x : DrainRecord) : DrainRecord := { x with inFlight := x.inFlight + 1 }

theorem OnDrainLine.next (h : OnDrainLine d x i q a (n + 1)) : OnDrainLine (withOnWay 1 x d) (oneOnWay x) i (q + 4) (a + 4) n where
  record := rfl
  draining := h.draining
  state := h.state
  names := fun k hk => by
    have name := h.names (k + 1) (Nat.succ_lt_succ hk)
    rwa [Nat.mul_succ, Nat.add_comm _ 4, ← Nat.add_assoc, ← Nat.add_assoc] at name

theorem withOnWay_withOnWay (n : Nat) (x : DrainRecord) (d : Device) : withOnWay n (oneOnWay x) (withOnWay 1 x d) = withOnWay (n + 1) x d := by
  simp only [withOnWay, oneOnWay, Nat.add_assoc, Nat.add_comm 1]

/-- A sample beat of a decided line that is not held joins the part (R7, R127). -/
theorem formPart_beat (m : Nat) (f : Option Nat) (h : OnDrainLine d x i q a (n + 1)) (sample : q < 2 * d.control.geometry.samples)
    (entry : entryOf x i = e) (decided : undecided e = false) (free : e ≠ .held)
    (follows : f = none ∨ f = some (sampleAddress d x i q e)) : formPart (m + 1) a f d =
      { formPart m (a + 4) (some (sampleAddress d x i q e + 4)) (withOnWay 1 x d) with
        start := some (sampleAddress d x i q e)
        tags := some { line := i, offset := q } :: (formPart m (a + 4) (some (sampleAddress d x i q e + 4)) (withOnWay 1 x d)).tags } := by
  have asked : askBeat a d = { device := d, treatment := .readAt (sampleAddress d x i q e), tag := some { line := i, offset := q },
                               ends := false } := by
    rw [askBeat_decided h sample (by rw [entry]; exact decided), entryTreatment_eq entry free]
  have taken : takeIn (askBeat a d) = withOnWay 1 x d := by
    rw [asked]
    simp [takeIn, onRecord, h.record, withOnWay]
  rw [formPart]
  simp only [taken]
  rw [asked]
  exact if_pos follows

/-- n + 1 sample beats of a decided line that is not held join the part one after another. -/
theorem formPart_line (rest : Nat) (f : Option Nat) (h : OnDrainLine d x i q a (n + 1))
    (samples : q + 4 * (n + 1) ≤ 2 * d.control.geometry.samples) (entry : entryOf x i = e) (decided : undecided e = false)
    (free : e ≠ .held) (follows : f = none ∨ f = some (sampleAddress d x i q e)) : formPart (n + 1 + rest) a f d =
      { formPart rest (a + 4 * (n + 1)) (some (sampleAddress d x i q e + 4 * (n + 1))) (withOnWay (n + 1) x d) with
        start := some (sampleAddress d x i q e)
        tags := lineTags i q (n + 1) ++
          (formPart rest (a + 4 * (n + 1)) (some (sampleAddress d x i q e + 4 * (n + 1))) (withOnWay (n + 1) x d)).tags } := by
  induction n generalizing d x q a f with
  | zero =>
    rw [Nat.add_comm, show rest + (0 + 1) = rest + 1 from rfl, formPart_beat rest f h (by omega) entry decided free follows]
    rfl
  | succ n ih =>
    have step := formPart_beat (n + 1 + rest) f h (by omega) entry decided free follows
    have shifted : sampleAddress (withOnWay 1 x d) (oneOnWay x) i (q + 4) e = sampleAddress d x i q e + 4 := sampleAddress_add d x i q 4 e
    have tail := ih (f := some (sampleAddress d x i q e + 4)) h.next (by show q + 4 + 4 * (n + 1) ≤ 2 * d.control.geometry.samples; omega)
      entry (.inr (by rw [shifted]))
    rw [shifted, withOnWay_withOnWay, show a + 4 + 4 * (n + 1) = a + 4 * (n + 1 + 1) by omega,
      show sampleAddress d x i q e + 4 + 4 * (n + 1) = sampleAddress d x i q e + 4 * (n + 1 + 1) by omega] at tail
    rw [show n + 1 + 1 + rest = n + 1 + rest + 1 by omega, step, tail, lineTags_succ i q (n + 1)]
    rfl

theorem lineTags_length (i q n : Nat) : (lineTags i q n).length = n := by simp [lineTags]

/-- A read of sample beats of one decided line that is not held is one part. -/
theorem formPart_one_line (f : Option Nat) (h : OnDrainLine d x i q a (n + 1)) (samples : q + 4 * (n + 1) ≤ 2 * d.control.geometry.samples)
    (entry : entryOf x i = e) (decided : undecided e = false) (free : e ≠ .held)
    (follows : f = none ∨ f = some (sampleAddress d x i q e)) : formPart (n + 1) a f d =
      { device := withOnWay (n + 1) x d, start := some (sampleAddress d x i q e), tags := lineTags i q (n + 1), hold := false } := by
  rw [← Nat.add_zero (n + 1), formPart_line 0 f h samples entry decided free follows, formPart, List.append_nil]

/-- Samples that go on into the trailer are split in front of it if its address does not follow (R7, R127). -/
theorem formPart_split (rest : Nat) (f : Option Nat) (h : OnDrainLine d x i q a (n + 2))
    (samples : q + 4 * (n + 1) = 2 * d.control.geometry.samples) (entry : entryOf x i = e) (decided : undecided e = false)
    (free : e ≠ .held) (follows : f = none ∨ f = some (sampleAddress d x i q e))
    (apart : sampleAddress d x i q e + 4 * (n + 1) ≠ a + 4 * (n + 1)) : formPart (n + 1 + (rest + 1)) a f d =
      { device := withOnWay (n + 1) x d, start := some (sampleAddress d x i q e), tags := lineTags i q (n + 1), hold := false } := by
  have line : OnDrainLine d x i q a (n + 1) := ⟨h.record, h.draining, h.state, fun k hk => h.names k (Nat.lt_succ_of_lt hk)⟩
  have trailer : OnDrainLine (withOnWay (n + 1) x d) { x with inFlight := x.inFlight + (n + 1) } i (q + 4 * (n + 1)) (a + 4 * (n + 1)) (0 + 1) :=
    ⟨rfl, h.draining, h.state, fun k hk => by
      obtain rfl : k = 0 := by omega
      exact h.names (n + 1) (by omega)⟩
  have stops : formPart (rest + 1) (a + 4 * (n + 1)) (some (sampleAddress d x i q e + 4 * (n + 1))) (withOnWay (n + 1) x d) =
      { device := withOnWay (n + 1) x d, start := none, tags := [], hold := false } := by
    have head : isSample (withOnWay (n + 1) x d).control.geometry (q + 4 * (n + 1)) = false := by
      simp [isSample, withOnWay, samples]
    simp only [formPart, askBeat_drain trailer, head, Bool.false_eq_true, if_false]
    exact if_neg (by simpa using apart)
  rw [formPart_line (rest + 1) f line samples.le entry decided free follows, stops, List.append_nil]

/-! ### A line decided at its first beat (R127, R128, R132) -/

theorem undecided_decideContext (d : Device) (x : DrainRecord) (i : Nat) : undecided (decideContext d x i) = false := by
  unfold decideContext
  extract_lets slot before
  split
  · split <;> rfl
  · split_ifs
    · rfl
    · rfl
    · rfl
    · unfold redirectOrDamage
      split
      · rfl
      · split <;> rfl

/-- The part after the first question about an undecided line that is not held. -/
theorem decideLine_settles (free : decideContext d x i ≠ .held) :
    decideLine x i d = settleLine x.slot i (decideContext d x i) d := by
  unfold decideLine
  split
  · next held => exact absurd held free
  · rfl

theorem settleLine_record (record : d.delivery.record = some x) (s i : Nat) (e : LineEntry) :
    (settleLine s i e d).delivery.record = some (fixEntry d i e x) := by
  rw [settleLine_delivery, record]
  rfl

/-- Settling a line leaves the DRAINING slot's line where it is. -/
theorem OnDrainLine.settleLine (h : OnDrainLine d x i q a n) (s : Nat) (e : LineEntry) :
    OnDrainLine (settleLine s i e d) (fixEntry d i e x) i q a n where
  record := settleLine_record h.record s i e
  draining := by rw [settleLine_ring]; exact h.draining
  state := by
    rw [slotAt, settleLine_ring]
    exact h.state
  names := by rw [settleLine_control]; exact h.names

/-- A forming that starts at an undecided line finds it settled. -/
theorem formPart_decides (m : Nat) (f : Option Nat) (h : OnDrainLine d x i q a (n + 1)) (sample : q < 2 * d.control.geometry.samples)
    (inside : i < x.lines.length) (open_ : undecided (entryOf x i) = true) (free : decideContext d x i ≠ .held) :
    formPart (m + 1) a f d = formPart (m + 1) a f (settleLine x.slot i (decideContext d x i) d) := by
  have asked : askBeat a d = askBeat a (settleLine x.slot i (decideContext d x i) d) := by
    have settled : undecided (entryOf (fixEntry d i (decideContext d x i) x) i) = false := by
      rw [entryOf_fixEntry_self inside]
      exact undecided_decideContext d x i
    rw [askBeat_decided (h.settleLine x.slot (decideContext d x i)) (by rw [settleLine_control]; exact sample) settled, askBeat_drain h,
      if_pos (by simpa [isSample] using sample)]
    have answer : askSample i q d = (settleLine x.slot i (decideContext d x i) d, some (entryTreatment
        (settleLine x.slot i (decideContext d x i) d) (fixEntry d i (decideContext d x i) x) i q)) := by
      simp only [askSample, h.record, open_, if_true, decideLine_settles free, settleLine_record h.record, Option.map_some]
    rw [answer]
    rfl
  rw [formPart, formPart, asked]

/-- With the memory side free a claim within the stored read or the write-back is granted as it is. -/
theorem grantEngineIfFree_run {k : Job} (bus : d.arbiter.onBus = none) (job : d.engine.job = some k)
    (phase : k.phase = .storedRead ∨ k.phase = .writeBack) (claims : d.engine.claiming = true) :
    grantEngineIfFree d = grantedEngine k d := by
  rw [grantEngineIfFree, if_pos (by rw [bus, claims]; rfl), grantEngine_run job phase claims]

theorem takeHold_record (record : d.delivery.record = some x) (i : Nat) : (takeHold i d).delivery = { d.delivery with
    record := some { x with lines := x.lines.set i .held, holdCount := x.holdCount + 1 }, held := some { line := i, ticks := 0 } } := by
  rw [takeHold_delivery, record, Option.map_some, modifyAt_eq_set _ _ _ .unreached]

/-- A forming that starts at a line decided HELD takes the hold and stops (R10, R132). -/
theorem formPart_holds (m : Nat) (f : Option Nat) (h : OnDrainLine d x i q a (n + 1)) (sample : q < 2 * d.control.geometry.samples)
    (inside : i < x.lines.length) (open_ : undecided (entryOf x i) = true) (held : decideContext d x i = .held) :
    formPart (m + 1) a f d = { device := takeHold i d, start := none, tags := [], hold := true } := by
  have asked : askSample i q d = (takeHold i d, some .hold) := by
    have decides : decideLine x i d = takeHold i d := by simp only [decideLine, held]
    have record : (takeHold i d).delivery.record =
        some { x with lines := modifyAt (fun _ => .held) i x.lines, holdCount := x.holdCount + 1 } := by
      rw [takeHold_delivery, h.record]
      rfl
    have entry : entryOf { x with lines := modifyAt (fun _ => LineEntry.held) i x.lines, holdCount := x.holdCount + 1 } i = .held :=
      (entryOf_modifyAt i i .held x).trans (if_pos ⟨rfl, inside⟩)
    have sound : spoiled (slotAt (takeHold i d) x.slot) = false := (decideContext_held held).1
    simp only [askSample, h.record, open_, if_true, decides, record, Option.map_some, entryTreatment, sound, entry]
    rfl
  have answer : askBeat a d = { device := takeHold i d, treatment := .hold, tag := some { line := i, offset := q }, ends := false } := by
    rw [askBeat_drain h, if_pos (by simpa [isSample] using sample), asked]
    rfl
  rw [formPart]
  simp only [answer]

theorem settleLine_bus (s i : Nat) (e : LineEntry) (d : Device) (p : Port) (b : Arbiter) :
    settleLine s i e { d with port := p, arbiter := b } = { settleLine s i e d with port := p, arbiter := b } := by
  cases e with
  | asStored =>
    simp only [settleLine, countDecision]
    rw [show isClean (onRecord (fixEntry { d with port := p, arbiter := b } i .asStored) { d with port := p, arbiter := b }) s i =
      isClean (onRecord (fixEntry d i .asStored) d) s i from rfl]
    split <;> rfl
  | _ => rfl

theorem sampleAddress_settleLine (d : Device) (x : DrainRecord) (s i q : Nat) (e : LineEntry) :
    sampleAddress (settleLine s i e d) (fixEntry d i e x) i q e = sampleAddress d x i q e := by
  unfold sampleAddress
  simp only [slotAt, settleLine_ring, settleLine_control]
  rfl

/-! ### Grants of a read that is formed (R7, R10) -/

theorem grantBurner_forms {t : BurnerTransfer} (ht : d.port.transfer = some t) (read : t.write = false) (formed : t.unchanged = false) :
    grantBurner d = forwardPart t { d with arbiter := { d.arbiter with passOver := false } } := by
  simp only [grantBurner, ht]
  exact if_neg (by simp [read, formed])

theorem forwardPart_held {t : BurnerTransfer} (h : (formPart (t.beats - t.next) (t.addr + 4 * t.next) none d).start = none) :
    forwardPart t d = setTransfer (some { t with mode := .held, holdAsked := false, inPart := [] })
      (formPart (t.beats - t.next) (t.addr + 4 * t.next) none d).device := by
  simp only [forwardPart, h]

theorem forwardPart_part {t : BurnerTransfer} {m : Nat} (h : (formPart (t.beats - t.next) (t.addr + 4 * t.next) none d).start = some m) :
    forwardPart t d = setBus
      (some { byEngine := false, write := false, addr := m, lanes := [], orphan := false,
              beats := (formPart (t.beats - t.next) (t.addr + 4 * t.next) none d).tags.length })
      (setTransfer (some { t with
          mode := .forwarding, holdAsked := (formPart (t.beats - t.next) (t.addr + 4 * t.next) none d).hold,
          inPart := (formPart (t.beats - t.next) (t.addr + 4 * t.next) none d).tags })
        (formPart (t.beats - t.next) (t.addr + 4 * t.next) none d).device) := by
  simp only [forwardPart, h]

/-! ### A read that starts (R1, R6, R7) -/

/-- The part as a read that starts is formed. -/
def readForming (s : State) (a : BitVec 26) (n : BitVec 4) : Device :=
  { s.toDevice with
    port := { s.port with transfer := some (begun s false a n .waiting []) }
    arbiter := { s.arbiter with passOver := false } }

theorem exec_read_formed {s : State} {a : BitVec 26} {n : BitVec 4} {g : Device} {m : Nat} {tags : List (Option BeatTag)}
    (fits : a.toNat % 4 = 0 ∧ a.toNat + 4 * (n.toNat + 1) ≤ 67108864) (idle : s.port.transfer = none ∧ s.arbiter.onBus = none)
    (run : s.control.run = .running) (claim : s.engine.claiming = false)
    (formed : formPart (n.toNat + 1) a.toNat none (readForming s a n) = { device := g, start := some m, tags := tags, hold := false }) :
    exec (.burnerTransferStart false a n) s = .next { s with toDevice := { g with
      port := { s.port with transfer := some (begun s false a n .forwarding tags) }
      arbiter := { onBus := some { byEngine := false, write := false, addr := m, beats := tags.length, lanes := [], orphan := false },
                   passOver := false } } } := by
  let t := begun s false a n .waiting []
  let d := setTransfer (some t) s.toDevice
  have goes : exec (.burnerTransferStart false a n) s = .next (s.onDevice (startTransfer false a n)) :=
    exec_of_guard (c := .burnerTransferStart false a n) ⟨by simp [transferFits, fits, Config.memorySize], idle.1⟩
  have start : startTransfer false a n s.toDevice = arbitrate d := rfl
  have form : formPart (t.beats - t.next) (t.addr + 4 * t.next) none { d with arbiter := { d.arbiter with passOver := false } } =
      { device := g, start := some m, tags := tags, hold := false } := formed
  have port : g.port = (readForming s a n).port := by
    rw [← formPart_port (n.toNat + 1) a.toNat none (readForming s a n), formed]
  have bus : g.arbiter = (readForming s a n).arbiter := by
    rw [← formPart_arbiter (n.toNat + 1) a.toNat none (readForming s a n), formed]
  rw [goes, State.onDevice, start, arbitrate_burner (d := d) idle.2 claim (portState_eq_waiting.2 ⟨t, rfl, rfl⟩),
    grantBurner_forms (d := d) (t := t) rfl rfl (by simp [t, begun, run]), forwardPart_part (by rw [form]), form,
    grantEngineIfFree_busy (by simp)]
  simp only [setBus, setTransfer, port, bus]
  rfl

/-- The places that a read of the DRAINING slot's line has, as the read is formed. -/
theorem onDrainLine_of {s : State} {r : DrainRecord} {a : Nat} (h : AtDrainLine s r i q a) {n : Nat}
    (inside : q + 4 * n < 2 * s.control.geometry.samples + 12) : OnDrainLine s.toDevice r i q a n where
  record := h.draining.1
  draining := h.draining.2.1
  state := h.draining.2.2
  names := fun k hk => by
    obtain ⟨-, samples, ⟨-, packet, -⟩, -, ⟨-, slot⟩, -⟩ := h.running.2
    have linePitch : 0 < s.control.geometry.linePitch := by omega
    have pitch : 0 < s.control.geometry.slotPitch :=
      lt_of_lt_of_le (Nat.mul_pos (by have := h.line.2.1; omega) linePitch) slot
    refine (nameAddress_line_iff pitch linePitch packet slot).2 ⟨h.line.1, h.line.2.1, by omega, ?_⟩
    rw [h.address, lineAddress, lineAddress, Nat.add_assoc]

end

end Sys2Proof.Machine

namespace Sys2Proof.Transfers

open Sys2Proof.Machine

/-- Settles O33: a line's beats join the part one after another under its entry, decided at the first of them. -/
theorem readsOfTheDrainAreFormed : Obligations.ReadsOfTheDrainAreFormed := by
  refine ⟨fun s r i q a n h => ⟨fun e d claim samples free cases => ?_, fun x j k claim entry sound apart some_ short ends => ?_⟩,
    fun s m l j k u r i q goesOn ht mode read formed left place sample open_ held => ?_, fun d u ht read formed => ?_⟩
  · have on : OnDrainLine (readForming s a n) r i q a.toNat (n.toNat + 1) :=
      have here := onDrainLine_of h.place (n := n.toNat + 1) (by omega)
      ⟨here.record, here.draining, here.state, here.names⟩
    rcases cases with ⟨decided, rfl, rfl⟩ | ⟨open_, rfl, rfl⟩
    · have formed := formPart_one_line none on samples rfl decided free (.inl rfl)
      refine ⟨_, _, r, h.place.draining.1, rfl, rfl, rfl, ?_⟩
      rw [exec_read_formed h.fits h.idle h.place.running.1 claim formed, lineTags_length]
      rfl
    · have formed := (formPart_decides n.toNat none on (by show q < 2 * s.control.geometry.samples; omega) h.place.line.2.2 open_ free).trans
        (formPart_one_line none (on.settleLine r.slot (decideContext (readForming s a n) r i))
          (by rw [settleLine_control]; exact samples) (entryOf_fixEntry_self h.place.line.2.2 _ _) (undecided_decideContext _ _ _) free
          (.inl rfl))
      rw [sampleAddress_settleLine] at formed
      refine ⟨_, _, fixEntry s.toDevice i (decideContext s.toDevice r i) r, settleLine_record h.place.draining.1 _ _ _,
        entryOf_fixEntry_self h.place.line.2.2 _ _, rfl, rfl, ?_⟩
      have settled : settleLine r.slot i (decideContext (readForming s a n) r i) (readForming s a n) = _ :=
        settleLine_bus r.slot i (decideContext s.toDevice r i) s.toDevice (readForming s a n).port (readForming s a n).arbiter
      rw [exec_read_formed h.fits h.idle h.place.running.1 claim formed, lineTags_length, settled,
        settleLine_port]
      rfl
  · obtain ⟨c, rfl⟩ : ∃ c, k = c + 1 := ⟨k - 1, by omega⟩
    obtain ⟨rest, more⟩ : ∃ rest, n.toNat + 1 = c + 1 + (rest + 1) := ⟨n.toNat - (c + 1), by omega⟩
    have on : OnDrainLine (readForming s a n) r i q a.toNat (c + 2) :=
      have here := onDrainLine_of h.place (n := c + 2) (by omega)
      ⟨here.record, here.draining, here.state, here.names⟩
    have source : sampleAddress (readForming s a n) r i q (.redirected x j) = lineAddress s.control.geometry x j q := by
      show (if spoiled (slotAt s.toDevice r.slot) = true then _ else _) = _
      rw [sound]
      rfl
    have formed := formPart_split rest none on ends entry rfl (by simp) (.inl rfl) (by
      rw [source, h.place.address]
      simpa [lineAddress] using apart)
    rw [← more, source] at formed
    refine ⟨_, _, rfl, rfl, ?_⟩
    rw [exec_read_formed h.fits h.idle h.place.running.1 claim formed, lineTags_length]
    rfl
  · obtain ⟨⟨bus, by_, alive, data⟩, ⟨job, phase, more⟩, rfl⟩ := goesOn
    have goes := exec_completes_engine bus by_ data
    rw [State.onDevice, completeTransfer_goesOn by_ alive job phase more] at goes
    let d := claimBus (setJob (jobAfter m l j) (setBus none s.toDevice))
    have waits : portState d = .waiting := portState_eq_waiting.2 ⟨u, ht, mode⟩
    have pass : passesOver d = false := by
      have claim : d.port.transfer.elim false BurnerTransfer.write = false := by rw [show d.port.transfer = some u from ht]; exact read
      simp [passesOver, claim]
    obtain ⟨c, hc⟩ : ∃ c, u.beats - u.next = c + 1 := ⟨u.beats - u.next - 1, by omega⟩
    have on : OnDrainLine { d with arbiter := { d.arbiter with passOver := false } } r i q (u.addr + 4 * u.next) (0 + 1) :=
      have here := onDrainLine_of place (n := 1) (by omega)
      ⟨here.record, here.draining, here.state, here.names⟩
    have holds := formPart_holds c none on sample place.line.2.2 open_ held
    rw [← hc] at holds
    rw [goes, arbitrate_burner_first (d := d) rfl waits pass, grantBurner_forms (d := d) ht read formed, forwardPart_held (by rw [holds]),
      holds, grantEngineIfFree_run (k := jobAfter m l j) rfl rfl phase rfl]
    have record := takeHold_record (d := { d with arbiter := { d.arbiter with passOver := false } }) place.draining.1 i
    simp only [grantedEngine, setTransfer, record]
    rfl
  · obtain ⟨most, short, none⟩ := formPart_shape (u.beats - u.next) (u.addr + 4 * u.next) .none
      { d with arbiter := { d.arbiter with passOver := false } }
    refine ⟨_, rfl, most, short, fun empty => ?_, fun some_ => ?_⟩
    · rw [grantBurner_forms ht read formed, forwardPart_held (none.2 empty)]
      rfl
    · cases start : (formPart (u.beats - u.next) (u.addr + 4 * u.next) .none { d with arbiter := { d.arbiter with passOver := false } }).start with
      | none => exact absurd (none.1 start) some_
      | some m =>
        refine ⟨{ byEngine := false, write := false, addr := m, lanes := [], orphan := false, beats := _ }, rfl, rfl, rfl, rfl, ?_⟩
        rw [grantBurner_forms ht read formed, forwardPart_part start]
        rfl

end Sys2Proof.Transfers
end

section
/-! PROOFS. The repaired line's bytes, and read beats on their way to the burner (sections 5.8, 5.10 and 7.4). -/

namespace Sys2Proof.Machine

/-! ### Packet words and bytes (R44, R94, R180) -/

theorem packetWord_bytes (order : ByteOrder) {n : Nat} (h : n < 65536) : packetWord order (lowerByte order n) (upperByte order n) = n := by
  cases order <;> simp only [packetWord, lowerByte, upperByte, BitVec.toNat_ofNat] <;> omega

theorem packetBytes_length (order : ByteOrder) (l : List Nat) : (packetBytes order l).length = 2 * l.length := by
  induction l with
  | nil => rfl
  | cons n l ih =>
    simp only [packetBytes, List.flatMap_cons, List.length_append, List.length_cons, List.length_nil] at ih ⊢
    omega

theorem packetWords_packetBytes (order : ByteOrder) {l : List Nat} (h : ∀ n ∈ l, n < 65536) : packetWords order (packetBytes order l) = l := by
  induction l with
  | nil => rfl
  | cons n l ih =>
    have tail := ih fun n hn => h n (List.mem_cons_of_mem _ hn)
    simp only [packetBytes, List.flatMap_cons, List.cons_append, List.nil_append, packetWords] at tail ⊢
    rw [packetWord_bytes order (h n List.mem_cons_self), tail]

/-! ### Read beats delivered (R12, R126, R136 to R141) -/

section
variable {d : Device} {s : State} {u : BurnerTransfer} {x : Option BeatTag} {rest : List (Option BeatTag)} {r : DrainRecord} {t : BeatTag}
  {b : Beat}

theorem exec_returns (ht : s.port.transfer = some u) (read : u.write = false) (mode : u.mode = .forwarding) (part : u.inPart = x :: rest)
    (b : Beat) : exec (.readBeatData b) s = .next { s with toDevice := { (passThrough x b s.toDevice).1 with
      port := { transfer := some { u with next := u.next + 1, inPart := rest }, brd := (passThrough x b s.toDevice).2 } } } := by
  rw [exec_of_guard (c := .readBeatData b) (by simp [Machine.guard, readBeatDue, ht, read, mode, part])]
  simp only [State.onDevice, effect, returnBeat, ht, part, List.head?_cons, Option.getD_some, giveBeat, List.tail_cons]

theorem deliverBeat_record (closing : d.delivery.closing = none) (record : d.delivery.record = some r) (t : BeatTag) (b : Beat) :
    deliverBeat t b d = (trackBeat (passBeat d r t b)
      { d with delivery := { d.delivery with record := some (signBeat (passBeat d r t b) r) } }, (passBeat d r t b).beat) := by
  simp only [deliverBeat, closing, record]

theorem deliverBeat_closing (closing : d.delivery.closing = some r) (t : BeatTag) (b : Beat) : deliverBeat t b d =
    (if (signBeat (passBeat d r t b) r).inFlight = 0 then
        handOverClosing (trackBeat (passBeat d r t b)
          { d with delivery := { d.delivery with closing := some (signBeat (passBeat d r t b) r) } })
      else trackBeat (passBeat d r t b)
          { d with delivery := { d.delivery with closing := some (signBeat (passBeat d r t b) r) } },
      (passBeat d r t b).beat) := by
  simp only [deliverBeat, closing]

theorem report_link (e : Ending) (d : Device) : (report e d).link = { d.link with causes := (report e d).link.causes } := by
  have folded : ∀ q d, (foldQuality q d).link = { d.link with causes := (foldQuality q d).link.causes } := fun q d => by
    unfold foldQuality
    extract_lets before after e
    split <;> rfl
  have offered : ∀ p d, (offerReport p d).link = { d.link with causes := (offerReport p d).link.causes } := fun p d => by
    unfold offerReport
    extract_lets stored
    split_ifs <;> rfl
  simp only [report]
  rw [offered, folded, countFrame_link]

theorem handOverClosing_link (d : Device) : (handOverClosing d).link = { d.link with causes := (handOverClosing d).link.causes } := by
  unfold handOverClosing
  split
  · rfl
  · exact report_link _ d

theorem deliverBeat_link (t : BeatTag) (b : Beat) (d : Device) :
    (deliverBeat t b d).1.link = { d.link with causes := (deliverBeat t b d).1.link.causes } := by
  cases closing : d.delivery.closing with
  | some r =>
    rw [deliverBeat_closing closing]
    split
    · exact (handOverClosing_link _).trans (by rw [trackBeat_link])
    · rw [trackBeat_link]
  | none =>
    cases record : d.delivery.record with
    | some r =>
      rw [deliverBeat_record closing record]
      simp only [trackBeat_link]
    | none => simp only [deliverBeat, closing, record]

theorem passThrough_link (x : Option BeatTag) (b : Beat) (d : Device) :
    (passThrough x b d).1.link = { d.link with causes := (passThrough x b d).1.link.causes } := by
  cases x with
  | none => rfl
  | some t => exact deliverBeat_link t b d

/-! ### Records and reports as beats pass -/

theorem passBeat_sample (sample : t.offset < 2 * d.control.geometry.samples) (r : DrainRecord) (b : Beat) : passBeat d r t b =
    { beat := b, context := some (sampleContext d.delivery.context t.line t.offset (beatBytes b)), countedHead := none,
      unverified := false } := by
  simp only [passBeat]
  rw [if_pos (by simpa [isSample] using sample)]

/-- The data-side tracking of a beat that counts nothing. -/
theorem trackBeat_verified {p : Passing} (h : p.unverified = false) (d : Device) : trackBeat p d =
    { d with delivery := { d.delivery with context := p.context, countedHead := p.countedHead } } := by
  simp [trackBeat, h]

theorem trackBeat_delivery (p : Passing) (d : Device) :
    (trackBeat p d).delivery = { d.delivery with context := p.context, countedHead := p.countedHead } := by
  unfold trackBeat
  extract_lets e
  split <;> rfl

theorem trackBeat_queue (p : Passing) (d : Device) : (trackBeat p d).reports.queue = d.reports.queue ∧
    (trackBeat p d).reports.gap = d.reports.gap ∧
    (trackBeat p d).reports.counters.framesDrained = d.reports.counters.framesDrained := by
  unfold trackBeat
  extract_lets e
  split <;> exact ⟨rfl, rfl, rfl⟩

theorem foldQuality_gap (q : Nat) (d : Device) : (foldQuality q d).reports.gap = d.reports.gap := by
  unfold foldQuality
  extract_lets before after e
  split <;> rfl

theorem countFrame_gap (k : EndKind) (d : Device) : (countFrame k d).reports.gap = d.reports.gap := by
  cases k <;> rfl

/-- With room in the queue, the report of a drain record, with the pending gap. -/
theorem handOverRecord_joins (r : DrainRecord) (room : d.reports.queue.length < 32) : (handOverRecord r d).reports.queue =
    d.reports.queue ++ [{ buildReport d (recordEnding (fillTallies d r)) with gap := d.reports.gap }] := by
  show (offerReport _ (foldQuality _ (countFrame r.endKind d))).reports.queue = _
  rw [offerReport_queue _ (by rw [foldQuality_queue, countFrame_queue]; exact room), foldQuality_queue, countFrame_queue, foldQuality_gap,
    countFrame_gap]

theorem handOverClosing_reports (closing : d.delivery.closing = some r) : (handOverClosing d).reports = (handOverRecord r d).reports := by
  simp only [handOverClosing, closing]

/-! ### Trailers as they pass (R137 to R139) -/

/-- A line is rewrite-eligible in a slot neither STALE nor LOSSY, where it is checked, with a delivered entry (R137). -/
theorem rewriteEligible_iff {e : SlotEntry} {i : Nat} : rewriteEligible e r i = true ↔ e.flags.stale = false ∧ e.flags.lossy = false ∧
    ¬ (e.flags.overtake = true ∧ e.uncheckedFrom ≤ i) ∧
    (entryOf r i = .clean ∨ entryOf r i = .handled ∨ (∃ x y, entryOf r i = .redirected x y) ∨ entryOf r i = .damaged) := by
  unfold rewriteEligible spoiled unchecked
  cases entryOf r i <;> cases e.flags.overtake <;> simp [and_assoc]

theorem passBeat_head (at_ : 2 * d.control.geometry.samples ≤ t.offset) (before : t.offset < 2 * d.control.geometry.samples + 4)
    (r : DrainRecord) (b : Beat) :
    passBeat d r t b = passHead d.control.geometry (slotAt d r.slot) r d.delivery.context t.line b := by
  have sample : isSample d.control.geometry t.offset = false := by simp [isSample, at_]
  have head : isHead d.control.geometry t.offset = true := by simp [isHead, at_, before]
  simp only [passBeat, sample, head, Bool.false_eq_true, if_false, if_true]

theorem passBeat_tail (at_ : 2 * d.control.geometry.samples + 4 ≤ t.offset) (r : DrainRecord) (b : Beat) : passBeat d r t b =
    passTail d.control.geometry (slotAt d r.slot) r d.delivery.context d.delivery.countedHead t.line b := by
  have sample : isSample d.control.geometry t.offset = false := by
    simp only [isSample, decide_eq_false_iff_not]
    omega
  have head : isHead d.control.geometry t.offset = false := by
    simp only [isHead, Bool.and_eq_false_iff, decide_eq_false_iff_not]
    omega
  simp only [passBeat, sample, head, Bool.false_eq_true, if_false]

/-- A trailer beat that passes as stored. -/
def asStored (b : Beat) (counted : Bool) (head : Option Nat) : Passing :=
  { beat := b, context := none, countedHead := head, unverified := counted }

theorem exec_asStored {counted : Bool} {head : Option Nat} (ht : s.port.transfer = some u) (read : u.write = false)
    (mode : u.mode = .forwarding) (part : u.inPart = some t :: rest) (closing : s.delivery.closing = none)
    (record : s.delivery.record = some r) (passes : passBeat s.toDevice r t b = asStored b counted head) :
    exec (.readBeatData b) s = .next (trailerAsStored s u rest r b counted head) := by
  rw [exec_returns ht read mode part b, passThrough, deliverBeat_record closing record, passes]
  cases counted <;> rfl

/-- A trailer beat that is rewritten, or a sample beat: nothing is counted. -/
theorem exec_verified {p : Passing} (ht : s.port.transfer = some u) (read : u.write = false) (mode : u.mode = .forwarding)
    (part : u.inPart = some t :: rest) (closing : s.delivery.closing = none) (record : s.delivery.record = some r)
    (passes : passBeat s.toDevice r t b = p) (verified : p.unverified = false) : exec (.readBeatData b) s = .next { s with
      port := { transfer := some { u with next := u.next + 1, inPart := rest }, brd := p.beat }
      delivery := { s.delivery with
        record := some { r with signature := crc32 r.signature (beatBytes p.beat), inFlight := r.inFlight - 1 }
        context := p.context, countedHead := p.countedHead } } := by
  rw [exec_returns ht read mode part b, passThrough, deliverBeat_record closing record, passes, trackBeat_verified verified]
  simp only [signBeat, verified, Bool.false_eq_true, if_false]

section
variable {g : Geometry} {e : SlotEntry} {c : Option LineContext} {i : Nat}

theorem passHead_ineligible (h : rewriteEligible e r i = false) : passHead g e r c i b = asStored b false none := by
  simp [passHead, h, asStored]

theorem passTail_ineligible {counted : Option Nat} (h : rewriteEligible e r i = false) :
    passTail g e r c counted i b = asStored b false none := by
  simp [passTail, h, asStored]

theorem passHead_broken (h : rewriteEligible e r i = true) (broken : ∀ x, c = some x → ¬ (x.line = i ∧ x.next = some (2 * g.samples))) :
    passHead g e r c i b = asStored b true (some i) := by
  cases c with
  | none => simp [passHead, h, asStored]
  | some x => simp [passHead, h, asStored, runComplete, broken x rfl]

theorem passHead_rewritten {x : LineContext} (h : rewriteEligible e r i = true) (line : x.line = i) (next : x.next = some (2 * g.samples)) :
    passHead g e r (some x) i b =
      { beat := rewrittenHead g.order r i b
        context := some { x with crc := crc16 x.crc (beatBytes (rewrittenHead g.order r i b)), headMark := true }
        countedHead := none, unverified := false } := by
  simp [passHead, h, runComplete, line, next]

theorem passTail_broken {counted : Option Nat} (h : rewriteEligible e r i = true)
    (broken : ∀ x, c = some x → ¬ (x.line = i ∧ x.headMark = true)) : passTail g e r c counted i b = asStored b (counted != some i) none := by
  cases c with
  | none => simp [passTail, h, asStored]
  | some x => simp only [passTail, h, asStored, if_true, if_neg (broken x rfl)]

theorem passTail_rewritten {counted : Option Nat} {x : LineContext} (h : rewriteEligible e r i = true) (line : x.line = i)
    (mark : x.headMark = true) : passTail g e r (some x) counted i b =
      { beat := { b with lane0 := lowerByte g.order x.crc.toNat, lane1 := upperByte g.order x.crc.toNat }, context := none,
        countedHead := none, unverified := false } := by
  simp [passTail, h, line, mark]

end

end

end Sys2Proof.Machine

namespace Sys2Proof.Delivered

open Sys2Proof.Machine

/-- Settles O58: the clamp, and the run's bytes cut where samples, head and check word meet. -/
theorem repairedLineIsConsistent : Obligations.RepairedLineIsConsistent := by
  refine ⟨fun g v range => ?_, fun g values i tag grade count low high line station graded => ?_⟩
  · simp only [clampSample]
    omega
  · have samples : (packetBytes g.order (values.map (clampSample g))).length = 2 * g.samples := by
      rw [packetBytes_length, List.length_map, count]
    refine ⟨packetBytes g.order (values.map (clampSample g)) ++ engineHead g.order i tag grade, rfl, ?_, ?_, ?_, ?_, ?_,
      packetWord_bytes g.order (crc16 _ _).isLt⟩
    · rw [List.length_append, samples]
      rfl
    · rw [List.take_left' samples, packetWords_packetBytes]
      intro n hn
      obtain ⟨v, -, rfl⟩ := List.mem_map.1 hn
      simp only [clampSample]
      omega
    · rw [List.getD_append_right _ _ _ _ samples.le, List.getD_append_right _ _ _ _ (by omega), samples, Nat.sub_self,
        Nat.add_sub_cancel_left]
      exact packetWord_bytes g.order (by omega)
    · rw [List.getD_append_right _ _ _ _ (by omega), samples, Nat.add_sub_cancel_left]
      rfl
    · rw [List.getD_append_right _ _ _ _ (by omega), samples, Nat.add_sub_cancel_left]
      exact toNat_byteOf (by omega)

/-- Settles O40: the beat is the closing record's while there is one, else the DRAINING slot's; a sample beat passes as it is. -/
theorem readBeatsAreDelivered : Obligations.ReadBeatsAreDelivered := by
  intro b s u rest ht read mode
  refine ⟨fun x part => ⟨_, exec_returns ht read mode part b, rfl, passThrough_control .., passThrough_arbiter .., passThrough_ring ..,
      passThrough_checker .., passThrough_map .., passThrough_engine .., passThrough_link ..⟩,
    fun part => exec_returns ht read mode part b, fun g r part closing record sample => ?_, fun g r part closing => ?_⟩
  · rw [exec_returns ht read mode part b, passThrough, deliverBeat_record closing record, passBeat_sample sample, trackBeat_verified rfl]
    cases context : s.delivery.context <;> rfl
  · let p := passBeat s.toDevice r g b
    let e : Device := trackBeat p { s.toDevice with delivery := { s.delivery with closing := some (signBeat p r) } }
    have goes := exec_returns ht read mode part b
    rw [passThrough, deliverBeat_closing closing] at goes
    have counted : (signBeat p r).unverified = r.unverified ∨ (signBeat p r).unverified = min (r.unverified + 1) 65535 := by
      simp only [signBeat]
      split
      · exact .inr rfl
      · exact .inl rfl
    obtain ⟨queue, gap, drained⟩ := trackBeat_queue p { s.toDevice with delivery := { s.delivery with closing := some (signBeat p r) } }
    have own : e.delivery.closing = some (signBeat p r) := by
      simp only [e]
      rw [trackBeat_delivery]
    have kept : e.delivery.record = s.delivery.record := by
      simp only [e]
      rw [trackBeat_delivery]
    by_cases last : (signBeat p r).inFlight = 0
    · rw [if_pos last] at goes
      refine ⟨_, signBeat p r, goes, (handOverClosing_record e).trans kept, rfl, counted, fun more some_ => ?_, fun one => ⟨?_, fun room => ?_⟩,
        fun one complete => ?_⟩
      · simp only [signBeat] at last
        omega
      · exact congrArg Delivery.closing (handOverClosing_delivery e)
      · have joined := handOverRecord_joins (d := e) (signBeat p r) (by rw [queue]; exact room)
        refine ⟨_, ((congrArg Reports.queue (handOverClosing_reports own)).trans joined).trans (congrArg (· ++ _) queue), rfl, rfl, rfl, rfl,
          rfl, rfl, rfl, rfl, gap⟩
      · exact ((congrArg (fun x => x.counters.framesDrained) (handOverClosing_reports own)).trans
          (handOverRecord_framesDrained (r := signBeat p r) complete e)).trans (by rw [drained])
    · rw [if_neg last] at goes
      refine ⟨_, signBeat p r, goes, kept, rfl, counted, fun more some_ => ⟨own, queue⟩, fun one => ?_, fun one => ?_⟩
      · simp only [signBeat] at last
        omega
      · simp only [signBeat] at last
        omega

/-- Settles O41: eligibility, the run and the marks as each trailer beat passes. -/
theorem trailersAreRewritten : Obligations.TrailersAreRewritten := by
  refine ⟨fun b s u rest g r c ht read mode part closing record context stale lossy checked line => ⟨fun grade at_ next entry => ?_,
      fun at_ mark entry => ?_⟩,
    fun b s u rest g r ht read mode part closing record low high => ⟨_, Iff.rfl, fun ineligible => ?_, fun eligible head broken => ?_,
      fun eligible tail broken => ⟨fun counted => ?_, fun uncounted => ?_⟩⟩⟩
  · have delivered : (entryOf r g.line = .clean ∨ entryOf r g.line = .handled ∨ (∃ x y, entryOf r g.line = .redirected x y) ∨
        entryOf r g.line = .damaged) ∧ deliveredGrade (entryOf r g.line) b.lane3 = grade := by
      rcases entry with ⟨clean, rfl⟩ | ⟨handled, rfl⟩ | ⟨⟨x, y, redirected⟩, rfl⟩ | ⟨damaged, rfl⟩
      · exact ⟨.inl clean, by rw [clean]; rfl⟩
      · exact ⟨.inr (.inl handled), by rw [handled]; rfl⟩
      · exact ⟨.inr (.inr (.inl ⟨x, y, redirected⟩)), by rw [redirected]; rfl⟩
      · exact ⟨.inr (.inr (.inr damaged)), by rw [damaged]; rfl⟩
    have passes := passBeat_head (d := s.toDevice) at_.ge (by omega) r b
    rw [context, passHead_rewritten (rewriteEligible_iff.2 ⟨stale, lossy, checked, delivered.1⟩) line next] at passes
    refine ⟨_, _, exec_verified ht read mode part closing record passes rfl, rfl, ?_, rfl, rfl, rfl, rfl⟩
    rw [← delivered.2]
    rfl
  · have passes := passBeat_tail (d := s.toDevice) at_.ge r b
    rw [context, passTail_rewritten (rewriteEligible_iff.2 ⟨stale, lossy, checked, entry⟩) line mark] at passes
    exact ⟨_, _, exec_verified ht read mode part closing record passes rfl, rfl, rfl, rfl, packetWord_bytes _ c.crc.isLt, rfl, rfl, rfl, rfl⟩
  · rw [← rewriteEligible_iff, Bool.not_eq_true] at ineligible
    refine exec_asStored ht read mode part closing record ?_
    by_cases head : g.offset < 2 * s.control.geometry.samples + 4
    · rw [passBeat_head low head, passHead_ineligible ineligible]
    · rw [passBeat_tail (by omega), passTail_ineligible ineligible]
  · refine exec_asStored ht read mode part closing record ?_
    rw [passBeat_head low head, passHead_broken (rewriteEligible_iff.2 eligible) broken]
  · refine exec_asStored ht read mode part closing record ?_
    rw [passBeat_tail tail, passTail_broken (rewriteEligible_iff.2 eligible) broken, counted, bne_self_eq_false]
  · refine exec_asStored ht read mode part closing record ?_
    rw [passBeat_tail tail, passTail_broken (rewriteEligible_iff.2 eligible) broken, bne_iff_ne.2 uncounted]

end Sys2Proof.Delivered
end

section
/-! PROOFS. The repair engine: its spans, its lines, its runs, and what follows when a transfer of its job completes (section 6). -/

namespace Sys2Proof.Machine

section
variable {d e : Device} {s : State} {m : MemTransfer} {l : List Beat} {j k : Job} {p : Span} {t i n first : Nat}
  {f g : Span → Span} {out : Option (List Nat)} {grade : Nat} {x : FieldRecord}

/-! ### One span changed -/

theorem modifySpan_eq (t first : Nat) (f : Span → Span) (d : Device) : modifySpan t first f d =
    { d with map := { d.map with
        spans := d.map.spans.set t ((spansOf d t).map fun q => if q.first = first then f q else q) } } := by
  simp only [modifySpan, setSpans_eq, beq_iff_eq]

theorem modifySpan_congr (same : ∀ q, f q = g q) : modifySpan t first f d = modifySpan t first g d := by
  rw [show f = g from funext same]

theorem spansOf_modifySpan_self (ht : t < d.map.spans.length) :
    spansOf (modifySpan t first f d) t = (spansOf d t).map fun q => if q.first = first then f q else q := by
  simp [modifySpan_eq, spansOf, List.getD, ht]

theorem spansOf_modifySpan_ne (ne : i ≠ t) : spansOf (modifySpan t first f d) i = spansOf d i := by
  simp [modifySpan_eq, spansOf, List.getD, List.getElem?_set_ne ne.symm]

theorem spansOf_beyond (ht : ¬ t < d.map.spans.length) : spansOf d t = [] := by
  simp [spansOf, List.getD, List.getElem?_eq_none (Nat.le_of_not_lt ht)]

theorem modifySpan_beyond (ht : ¬ t < d.map.spans.length) : modifySpan t first f d = d := by
  simp [modifySpan_eq, List.set_eq_of_length_le (Nat.le_of_not_lt ht)]

theorem spansOf_modifySpan (t first i : Nat) (f : Span → Span) (d : Device) : spansOf (modifySpan t first f d) i =
    if i = t then (spansOf d t).map fun q => if q.first = first then f q else q else spansOf d i := by
  by_cases ne : i = t
  · subst ne
    by_cases ht : i < d.map.spans.length
    · simp [spansOf_modifySpan_self ht]
    · simp [modifySpan_beyond ht, spansOf_beyond ht]
  · rw [if_neg ne, spansOf_modifySpan_ne ne]

/-- Two changes of one span are one. -/
theorem modifySpan_modifySpan (keeps : ∀ q, (f q).first = q.first) :
    modifySpan t first g (modifySpan t first f d) = modifySpan t first (fun q => g (f q)) d := by
  by_cases ht : t < d.map.spans.length
  · rw [modifySpan_eq t first g, spansOf_modifySpan_self ht, modifySpan_eq, modifySpan_eq]
    simp only [List.set_set, List.map_map]
    congr 4
    funext q
    by_cases hq : q.first = first <;> simp [hq, keeps]
  · simp only [modifySpan_beyond ht]

theorem findSpan_modifySpan (ht : t < d.map.spans.length) (keeps : ∀ q, (f q).first = q.first) :
    findSpan (modifySpan t first f d) t first = (findSpan d t first).map f := by
  simp only [findSpan, spansOf_modifySpan_self ht, List.find?_map, Function.comp_def]
  rw [show (fun q : Span => (if q.first = first then f q else q).first == first) = fun q => q.first == first from
    funext fun q => by by_cases hq : q.first = first <;> simp [hq, keeps]]
  cases found : (spansOf d t).find? fun q => q.first == first with
  | none => rfl
  | some q => simp [show q.first = first by simpa using List.find?_some found]

/-- A change of a span that leaves its lines leaves every line as clean as it was (R40). -/
theorem isClean_modifySpan (keeps : ∀ q, (f q).first = q.first ∧ (f q).last = q.last) (r i : Nat) :
    isClean (modifySpan t first f d) r i = isClean d r i := by
  rw [Bool.eq_iff_iff, isClean_iff, isClean_iff, spansOf_modifySpan]
  split
  · next same =>
    subst same
    simp only [List.forall_mem_map]
    refine forall₂_congr fun q _ => ?_
    split
    · rw [(keeps q).1, (keeps q).2]
    · rfl
  · rfl

theorem temporalUsable_modifySpan (keeps : ∀ q, (f q).first = q.first ∧ (f q).last = q.last) (r i : Nat) :
    temporalUsable (modifySpan t first f d) r i = temporalUsable d r i := by
  simp only [temporalUsable, modifySpan_control, isClean_modifySpan keeps]
  rfl

/-! ### r of a span (R110) -/

theorem progressOf_eq (span : findSpan d j.slot j.first = some p) : progressOf d j = p.progress := by simp [progressOf, span]

/-- A span with r moved on by n lines, and the line written back tallied if told. -/
def spanPast (grade n : Nat) (counted : Bool) (q : Span) : Span :=
  { q with progress := q.progress + n, tallies := if counted then addTally grade q.tallies else q.tallies }

/-- r of the job's span moved on by n lines, and the line written back tallied and counted repaired if told. -/
def linesPast (j : Job) (n : Nat) (counted : Bool) (d : Device) : Device :=
  let moved := modifySpan j.slot j.first (spanPast j.grade n counted) d
  if counted then bump .linesRepaired moved else moved

theorem withLinesPast_eq (s : State) (j : Job) (n : Nat) (c : Bool) : withLinesPast s j n c = s.onDevice (linesPast j n c) := by
  simp only [State.onDevice, linesPast, modifySpan_eq]
  cases c <;> rfl

theorem moveProgress_eq (j : Job) (d : Device) : moveProgress j d = linesPast j 1 false d := rfl

/-- A line moved past, then tallied. -/
theorem linesPast_tallied (j : Job) (d : Device) : linesPast j 1 true d = tallyLine j (moveProgress j d) :=
  congrArg (bump .linesRepaired) (modifySpan_modifySpan (f := fun q => { q with progress := q.progress + 1 })
    (g := fun q => { q with tallies := addTally j.grade q.tallies }) fun _ => rfl).symm

theorem linesPast_zero (j : Job) (d : Device) : linesPast j 0 false d = d := by
  change modifySpan j.slot j.first (spanPast j.grade 0 false) d = d
  rw [modifySpan_eq, show (fun q : Span => if q.first = j.first then spanPast j.grade 0 false q else q) = id from
    funext fun q => ite_self (c := q.first = j.first) q, List.map_id]
  by_cases ht : j.slot < d.map.spans.length
  · rw [show spansOf d j.slot = d.map.spans[j.slot] by simp [spansOf, List.getD, ht], List.set_getElem_self]
  · rw [List.set_eq_of_length_le (Nat.le_of_not_lt ht)]

theorem linesPast_linesPast (j : Job) (a b : Nat) (c : Bool) (d : Device) :
    linesPast j b false (linesPast j a c d) = linesPast j (a + b) c d := by
  have merged : modifySpan j.slot j.first (spanPast j.grade b false) (modifySpan j.slot j.first (spanPast j.grade a c) d) =
      modifySpan j.slot j.first (spanPast j.grade (a + b) c) d :=
    (modifySpan_modifySpan (f := spanPast j.grade a c) (g := spanPast j.grade b false) fun _ => rfl).trans
      (modifySpan_congr fun q => by simp [spanPast, Nat.add_assoc])
  cases c with
  | false => exact merged
  | true => exact congrArg (bump .linesRepaired) merged

theorem linesPast_congr (slot : k.slot = j.slot) (first : k.first = j.first) (d : Device) : linesPast k n false d = linesPast j n false d := by
  simp only [linesPast, slot, first]
  rfl

theorem findSpan_linesPast (span : findSpan d j.slot j.first = some p) (ht : j.slot < d.map.spans.length) (n : Nat) (c : Bool) :
    findSpan (linesPast j n c d) j.slot j.first = some (spanPast j.grade n c p) := by
  have found := findSpan_modifySpan (d := d) (t := j.slot) (first := j.first) (f := spanPast j.grade n c) ht fun _ => rfl
  rw [span] at found
  cases c <;> exact found

theorem temporalUsable_linesPast (j : Job) (n : Nat) (c : Bool) (d : Device) (r i : Nat) :
    temporalUsable (linesPast j n c d) r i = temporalUsable d r i := by
  have kept := temporalUsable_modifySpan (d := d) (t := j.slot) (first := j.first) (f := spanPast j.grade n c) (fun _ => ⟨rfl, rfl⟩) r i
  cases c <;> exact kept

/-- The job's span DONE with r moved on by n lines, and the engine IDLE. -/
theorem withSpanDone_eq (s : State) (j : Job) (n : Nat) :
    withSpanDone s j n = s.onDevice fun d => finishSpan j (linesPast j n false (setBus none d)) := by
  have merged : modifySpan j.slot j.first (fun q => { q with state := .done })
      (modifySpan j.slot j.first (spanPast j.grade n false) s.toDevice) =
      modifySpan j.slot j.first (fun q => { q with state := .done, progress := q.progress + n }) s.toDevice :=
    modifySpan_modifySpan fun _ => rfl
  have maps := congrArg Device.map merged
  rw [modifySpan_eq j.slot j.first fun q => { q with state := .done, progress := q.progress + n }] at maps
  exact (congrArg (fun x => { withSpanDone s j n with map := x }) maps).symm

/-! ### A line begun (R110 to R113) -/

/-- The job that writes back a computed line, or reads its stored samples where there is no output (R113, R114). -/
def fixedJob (g : Geometry) (i : Nat) (out : Option (List Nat)) (grade : Nat) (head : List Byte) (j : Job) : Job :=
  match out with
  | some values =>
    { j with phase := .writeBack, fetched := [], grade := grade, head := head, next := lineAddress g j.slot i 0,
             stop := lineAddress g j.slot i (2 * g.samples + 8), lanes := repairedLanes g values head }
  | none =>
    { j with phase := .storedRead, fetched := [], grade := grade, head := head, next := lineAddress g j.slot i 0,
             stop := lineAddress g j.slot i (2 * g.samples), lanes := [] }

theorem fixedJob_phase : (fixedJob d.control.geometry i out grade head j).phase = .storedRead ∨
    (fixedJob d.control.geometry i out grade head j).phase = .writeBack := by
  cases out <;> simp [fixedJob]

theorem fixLine_claims (j : Job) (i : Nat) (v : Option (List Nat)) (d : Device) : ∃ out grade head,
    fixLine j i v d = claimBus (setJob (fixedJob d.control.geometry i out grade head j) d) := by
  simp only [fixLine]
  split <;> rename_i h
  · exact ⟨some _, _, _, rfl⟩
  · exact ⟨none, _, _, rfl⟩

theorem fixLine_eq {v : Option (List Nat)} (field : j.fields.find? (fun x => x.field == i % fieldDistance d.control.geometry) = some x)
    (output : (out, grade) = combine (spatialValues (fieldDistance d.control.geometry) i x) v x.weight x.kind) :
    fixLine j i v d = claimBus (setJob (fixedJob d.control.geometry i out grade
      (engineHead d.control.geometry.order i d.control.repair.stationTag grade) j) d) := by
  simp only [fixLine, field, Option.bind_some, Option.elim_some, ← output]
  cases out <;> rfl

/-- The job at the temporal fetch of line i (R110, R111). -/
def lineFetchJob (g : Geometry) (i : Nat) (j : Job) : Job :=
  { j with phase := .lineFetch, fetched := [], next := lineAddress g (referenceSlot g j.slot) i 0,
           stop := lineAddress g (referenceSlot g j.slot) i (2 * g.samples) }

theorem startLine_fetch (usable : temporalUsable d j.slot i = true) :
    startLine j i d = claimBus (setJob (lineFetchJob d.control.geometry i j) d) := by
  simp only [startLine, usable, if_true]
  rfl

theorem startLine_fix (unusable : temporalUsable d j.slot i = false) : startLine j i d = fixLine j i none d := by
  simp [startLine, unusable]

/-- The line work skips the lines that the drain has reached. -/
theorem lineWork_skips (n : Nat) (span : findSpan d j.slot j.first = some p) (ht : j.slot < d.map.spans.length)
    (skipped : ∀ x, p.progress ≤ x → x < p.progress + n → x ≤ j.last ∧ reached d j.slot x = true) (fuel : Nat) :
    lineWork j (n + fuel) d = lineWork j fuel (linesPast j n false d) := by
  induction n generalizing d p with
  | zero => rw [linesPast_zero, Nat.zero_add]
  | succ n ih =>
    obtain ⟨within, behind⟩ := skipped p.progress le_rfl (by omega)
    have rest := ih (d := moveProgress j d) (p := spanPast j.grade 1 false p) (findSpan_linesPast span ht 1 false)
      (by simpa [moveProgress, modifySpan_eq] using ht) fun x low high =>
        skipped x (Nat.le_of_succ_le low) ((show x < p.progress + 1 + n from high).trans_eq (by omega))
    rw [Nat.add_right_comm, lineWork]
    simp only [progressOf_eq span, not_lt.2 within, behind, if_false, if_true]
    rw [rest, moveProgress_eq, linesPast_linesPast, Nat.add_comm 1 n]

/-- Every line left has been reached: the span is DONE (R115). -/
theorem beginLines_done (span : findSpan d j.slot j.first = some p) (ht : j.slot < d.map.spans.length) (within : p.progress ≤ j.last + 1)
    (skipped : ∀ x, p.progress ≤ x → x ≤ j.last → reached d j.slot x = true) :
    beginLines j d = finishSpan j (linesPast j (j.last + 1 - p.progress) false d) := by
  obtain ⟨fuel, hfuel⟩ : ∃ fuel, j.last + 2 = (j.last + 1 - p.progress) + (fuel + 1) := ⟨p.progress, by omega⟩
  rw [beginLines, hfuel, lineWork_skips _ span ht (fun x low high => ⟨by omega, skipped x low (by omega)⟩), lineWork]
  simp only [progressOf_eq (findSpan_linesPast span ht _ false), spanPast]
  rw [if_pos (by omega)]

/-- The first line left that the drain has not reached is begun (R110). -/
theorem beginLines_starts (span : findSpan d j.slot j.first = some p) (ht : j.slot < d.map.spans.length) (low : p.progress ≤ n)
    (high : n ≤ j.last) (skipped : ∀ x, p.progress ≤ x → x < n → reached d j.slot x = true) (ahead : reached d j.slot n = false) :
    beginLines j d = startLine j n (linesPast j (n - p.progress) false d) := by
  obtain ⟨fuel, hfuel⟩ : ∃ fuel, j.last + 2 = (n - p.progress) + (fuel + 1) := ⟨j.last + 1 - (n - p.progress), by omega⟩
  have here : reached (linesPast j (n - p.progress) false d) j.slot n = false := ahead
  rw [beginLines, hfuel, lineWork_skips _ span ht (fun x low high => ⟨by omega, skipped x low (by omega)⟩), lineWork]
  simp only [progressOf_eq (findSpan_linesPast span ht _ false), spanPast, show p.progress + (n - p.progress) = n by omega, here]
  rw [if_neg (by omega), if_neg (by simp)]

/-! ### A claim placed, and the grant that follows (R13, R106, R108, R111) -/

/-- The tests before a transfer leave the claim as it is. -/
def PassesTests (k : Job) (d : Device) : Prop := testTransfer k d = claimBus (setJob k d)

theorem passesTests_fixed (i : Nat) (out : Option (List Nat)) (grade : Nat) (head : List Byte) :
    PassesTests (fixedJob e.control.geometry i out grade head j) d := testTransfer_run fixedJob_phase d

theorem passesTests_fetch (span : findSpan d j.slot j.first = some p) (ahead : reached d j.slot p.progress = false)
    (valid : referenceValid d j.slot = true) (g : Geometry) : PassesTests (lineFetchJob g p.progress j) d := by
  have r : progressOf d (lineFetchJob g p.progress j) = p.progress := progressOf_eq (j := lineFetchJob g p.progress j) span
  simp only [PassesTests, testTransfer, lineFetchJob] at r ⊢
  simp only [r, ahead, valid, if_true, Bool.false_eq_true, if_false]

/-- A claim of the job that passes its tests is granted, no burner claim waiting. -/
theorem arbitrate_claims (bus : d.arbiter.onBus = none) (port : portState d ≠ .waiting) (tests : PassesTests k (claimBus (setJob k d))) :
    arbitrate (claimBus (setJob k d)) = { d with
      engine := { d.engine with job := some k, claiming := false }, arbiter := { d.arbiter with onBus := some (engineTransfer k) } } := by
  refine arbitrate_claimBus bus port ?_
  have same : claimBus (setJob k (claimBus (setJob k d))) = claimBus (setJob k d) := rfl
  rw [PassesTests, same] at tests
  simp only [retestEngine, claimBus_job, setJob_job, tests]
  exact wakeEngine_busy rfl

/-- The last transfer of a run completes. -/
theorem completeTransfer_runEnds (by_ : m.byEngine = true) (alive : m.orphan = false) (job : d.engine.job = some j)
    (ends : j.stop ≤ j.next + 4 * m.beats) : completeTransfer m l d =
      arbitrate (wakeEngine (finishRun (jobAfter m l j) (setJob (jobAfter m l j) (setBus none d)))) := by
  rw [completeTransfer_engine by_ alive, engineCompletion_eq (d := setBus none d) job,
    if_neg (by simpa [jobAfter] using ends)]

/-- With the run over the job claims again: its next transfer is on the memory side. -/
theorem arbitrate_wakes_claimed (bus : d.arbiter.onBus = none) (port : portState d ≠ .waiting)
    (claims : e = claimBus (setJob k d)) (tests : PassesTests k (claimBus (setJob k d))) :
    arbitrate (wakeEngine e) = { d with
      engine := { d.engine with job := some k, claiming := false }, arbiter := { d.arbiter with onBus := some (engineTransfer k) } } := by
  rw [claims, wakeEngine_busy (j := k) rfl, arbitrate_claims bus port tests]

/-- With the run over the engine is IDLE with an empty order: nothing is granted. -/
theorem arbitrate_wakes_done (order : d.engine.order = []) (port : portState d ≠ .waiting) :
    arbitrate (wakeEngine (finishSpan j d)) = finishSpan j d := by
  rw [wakeEngine_nil (d := finishSpan j d) order, arbitrate_idle (d := finishSpan j d) rfl port]

/-! ### The order examined (R104) -/

/-- The reference fetches of a gather as laid out have a valid reference (R107). -/
theorem referenceValid_of_layOut {r : Nat} {q : Fetch} (member : q ∈ (layOutJob d r p).gather) (refers : isReferenceFetch q = true) :
    referenceValid d r = true := by
  have gather : (layOutJob d r p).gather = ((fieldRuns (fieldDistance d.control.geometry) p.first p.last).map
      (makeField d r d.control.repair.reach)).flatMap (fieldFetches d r) := by
    simp only [layOutJob, atFetch]
    split <;> rfl
  rw [gather, List.mem_flatMap] at member
  obtain ⟨field, -, member⟩ := member
  have usable : ∀ b : Option Nat, ∀ i ∈ b.toList.filter (temporalUsable d r), referenceValid d r = true := fun b i hi => by
    have := (List.mem_filter.1 hi).2
    simp only [temporalUsable, Bool.and_eq_true] at this
    exact this.1
  simp only [fieldFetches, List.mem_append, List.mem_map] at member
  rcases member with ((⟨i, -, rfl⟩ | ⟨i, -, rfl⟩) | ⟨i, hi, rfl⟩) | ⟨i, hi, rfl⟩
  · simp [isReferenceFetch] at refers
  · simp [isReferenceFetch] at refers
  · exact usable _ i hi
  · exact usable _ i hi

theorem layOutJob_fields (r : Nat) (p : Span) (d : Device) : (layOutJob d r p).slot = r ∧ (layOutJob d r p).first = p.first ∧
    (layOutJob d r p).last = p.last ∧ (layOutJob d r p).phase = .gather ∧ (layOutJob d r p).reach = d.control.repair.reach := by
  simp only [layOutJob, atFetch]
  split <;> exact ⟨rfl, rfl, rfl, rfl, rfl⟩

/-- A span taken with a fetch to make: its first claim is placed (R104, R108). -/
theorem takeSpan_eq {r : Nat} {q : Fetch} {more : List Fetch} (gather : (layOutJob d r p).gather = q :: more)
    (left : reached d r p.last = false) : takeSpan r p d =
      claimBus (setJob (layOutJob d r p) (modifySpan r p.first (fun q => { q with state := .active }) d)) := by
  obtain ⟨slot, -, last, -, -⟩ := layOutJob_fields r p d
  have left' : reached (setJob (layOutJob d r p) (modifySpan r p.first (fun q => { q with state := .active }) d))
      (layOutJob d r p).slot (layOutJob d r p).last = false := by
    rw [slot, last]
    exact left
  rw [takeSpan, continueGather_next gather left']
  · rfl
  · cases refers : isReferenceFetch q with
    | false => exact .inl rfl
    | true =>
      rw [slot]
      exact .inr (referenceValid_of_layOut (d := d) (gather ▸ List.mem_cons_self) refers)

/-! ### The next transfer of a run (R106) -/

theorem engineTransfer_bounds (start : j.next % 4 = 0) (stop : j.stop % 4 = 0) (some_ : j.next < j.stop) :
    1 ≤ transferBeats j ∧ transferBeats j ≤ 16 ∧ j.next / 64 = (j.next + 4 * transferBeats j - 1) / 64 ∧
      j.next + 4 * transferBeats j ≤ j.stop ∧ (j.next + 4 * transferBeats j = j.stop ∨ (j.next + 4 * transferBeats j) % 64 = 0) := by
  unfold transferBeats
  omega

end

end Sys2Proof.Machine

namespace Sys2Proof.Engine

open Sys2Proof.Machine

/-- Settles O59: the arithmetic of the cut, and the head of the order examined. -/
theorem engineTakesSpansAndCutsRuns : Obligations.EngineTakesSpansAndCutsRuns := by
  refine ⟨fun j start stop some_ => ⟨_, rfl, rfl, rfl, ?_⟩, fun d why => ?_,
    fun d h rest p marked run job order span hm => ⟨fun done => ?_, fun j f more left hj gather => ?_⟩⟩
  · obtain ⟨low, high, cut, within, far⟩ := engineTransfer_bounds start stop some_
    refine ⟨low, high, cut, within, far, by simp [engineTransfer], fun write => ?_, fun read => ?_⟩
    · simp_all [engineTransfer]
    · simp_all [engineTransfer]
  · rcases why with stopped | busy | empty
    · exact wakeEngine_stopped stopped
    · obtain ⟨j, hj⟩ := Option.ne_none_iff_exists'.1 busy
      exact wakeEngine_busy hj
    · exact wakeEngine_nil empty
  · have after : { d with engine := { d.engine with order := rest }, map := marked .done } =
        modifySpan h.slot h.first (fun q => { q with state := .done }) { d with engine := { d.engine with order := rest } } := by
      rw [modifySpan_eq, hm]
      rfl
    rw [wakeEngine, if_pos ⟨run, job⟩, order, examineOrder]
    simp only [show findSpan { d with engine := { d.engine with order := rest } } h.slot h.first = some p from span,
      show reached { d with engine := { d.engine with order := rest } } h.slot p.last = true from done, if_true]
    rw [wakeEngine, if_pos ⟨run, job⟩]
    exact congrArg (examineOrder rest) after.symm
  · subst hj
    obtain ⟨slot, first, last, phase, reach⟩ := layOutJob_fields h.slot p { d with engine := { d.engine with order := rest } }
    refine ⟨slot, first, last, phase, reach, ?_⟩
    have own : p.first = h.first := by simpa using List.find?_some span
    rw [wakeEngine, if_pos ⟨run, job⟩, order, examineOrder]
    simp only [show findSpan { d with engine := { d.engine with order := rest } } h.slot h.first = some p from span,
      show reached { d with engine := { d.engine with order := rest } } h.slot p.last = false from left, Bool.false_eq_true, if_false]
    rw [takeSpan_eq (d := { d with engine := { d.engine with order := rest } }) gather left]
    simp only [claimBus_job, setJob_job, Option.isNone_some, Bool.false_eq_true, if_false, own, modifySpan_eq, hm]
    rfl

end Sys2Proof.Engine
end

section
/-! PROOFS. What follows when a run of the engine's job is over: the gather, the lines, the write-back (sections 6.4, 6.5). -/

namespace Sys2Proof.Machine

section
variable {d e : Device} {s : State} {m : MemTransfer} {l : List Beat} {j k : Job} {p : Span} {i n : Nat} {f : Fetch} {rest : List Fetch}
  {fields : List FieldRecord} {out : Option (List Nat)} {grade : Nat} {x : FieldRecord}

theorem linesPast_frame (j : Job) (n : Nat) (c : Bool) (d : Device) : (linesPast j n c d).control = d.control ∧
    (linesPast j n c d).port = d.port ∧ (linesPast j n c d).arbiter = d.arbiter ∧ (linesPast j n c d).ring = d.ring ∧
    (linesPast j n c d).engine = d.engine ∧ (linesPast j n c d).delivery = d.delivery := by
  cases c <;> exact ⟨rfl, rfl, rfl, rfl, rfl, rfl⟩

theorem linesPast_length (j : Job) (n : Nat) (c : Bool) (d : Device) : (linesPast j n c d).map.spans.length = d.map.spans.length := by
  cases c <;> simp [linesPast, modifySpan_eq, bump, bumpBy]

theorem reached_linesPast (j : Job) (n : Nat) (c : Bool) (d : Device) (r i : Nat) : reached (linesPast j n c d) r i = reached d r i := by
  cases c <;> rfl

theorem referenceValid_linesPast (j : Job) (n : Nat) (c : Bool) (d : Device) (r : Nat) :
    referenceValid (linesPast j n c d) r = referenceValid d r := by
  cases c <;> rfl

theorem linesPast_setJob (j k : Job) (n : Nat) (c : Bool) (d : Device) : linesPast j n c (setJob k d) = setJob k (linesPast j n c d) := by
  cases c <;> rfl

theorem referenceValid_of_usable (usable : temporalUsable d n i = true) : referenceValid d n = true := by
  simp only [temporalUsable, Bool.and_eq_true] at usable
  exact usable.1

/-! ### A fetched run is over -/

/-- The part as the last transfer of a run leaves it to the engine. -/
def runOver (m : MemTransfer) (l : List Beat) (j : Job) (d : Device) : Device := setJob (jobAfter m l j) (setBus none d)

theorem exec_runEnds_claims (ends : RunEnds s m l j p) (claims : finishRun (jobAfter m l j) (runOver m l j s.toDevice) =
      claimBus (setJob k (setBus none s.toDevice))) (tests : PassesTests k (claimBus (setJob k (setBus none s.toDevice)))) :
    exec (.memoryTransferComplete l) s = .next (withJobOnBus s k) := by
  rw [exec_runEnds ends, State.onDevice, completeTransfer_runEnds ends.bus.2.1 ends.bus.2.2.1 ends.job.1 ends.job.2, ← runOver,
    arbitrate_wakes_claimed (d := setBus none s.toDevice) rfl ends.port claims tests]
  rfl

theorem exec_runEnds_done (ends : RunEnds s m l j p) (slot : k.slot = j.slot) (first : k.first = j.first)
    (done : finishRun (jobAfter m l j) (runOver m l j s.toDevice) =
      finishSpan k (linesPast k n false (runOver m l j s.toDevice))) (order : s.engine.order = []) :
    exec (.memoryTransferComplete l) s = .next (withSpanDone s j n) := by
  have same : finishSpan k (linesPast k n false (runOver m l j s.toDevice)) = finishSpan j (linesPast j n false (setBus none s.toDevice)) := by
    rw [linesPast_congr slot first]
    simp only [finishSpan, slot, first]
    rfl
  rw [exec_runEnds ends, State.onDevice, completeTransfer_runEnds ends.bus.2.1 ends.bus.2.2.1 ends.job.1 ends.job.2,
    show finishRun (jobAfter m l j) (setJob (jobAfter m l j) (setBus none s.toDevice)) = _ from done.trans same,
    arbitrate_wakes_done (d := linesPast j n false (setBus none s.toDevice)) order ends.port, withSpanDone_eq]
  rfl

/-! ### The gather (R108, R109) -/

/-- The job at a fetch of its gather. -/
def fetchJob (g : Geometry) (f : Fetch) (rest : List Fetch) (fields : List FieldRecord) (j : Job) : Job :=
  { j with phase := .gather, gather := f :: rest, fields := fields, fetched := [], next := lineAddress g f.slot f.line 0,
           stop := lineAddress g f.slot f.line (2 * g.samples) }

theorem finishRun_gather (phase : j.phase = .gather) (d : Device) : finishRun j d =
    continueGather (finishFetch d.control.geometry j) (setJob (finishFetch d.control.geometry j) d) := by
  simp only [finishRun, phase]

theorem finishFetch_eq (g : Geometry) (gather : j.gather = f :: rest) (hf : fields = j.fields.map fun x =>
      if x.field = f.field then takeValues f.role (sampleValues g.order j.fetched) x else x) :
    finishFetch g j = atFetch g { j with gather := rest, fields := fields } := by
  simp only [finishFetch, gather, hf]

/-- The job with its gather ended: motion figures and weights formed (R109). -/
def gatheredJob (g : Geometry) (fields : List FieldRecord) (j : Job) : Job :=
  { j with gather := [], fields := fields.map (finishField g.samples j.tStill j.tMove j.wDefault) }

theorem passesTests_gather {g : Geometry} (left : reached d j.slot j.last = false)
    (valid : isReferenceFetch f = false ∨ referenceValid d j.slot = true) : PassesTests (fetchJob g f rest fields j) d :=
  continueGather_next (j := fetchJob g f rest fields j) rfl left valid

/-! ### The write-back (R110, R115) -/

theorem releaseByWriteBack_noHold (held : d.delivery.held = none) (r i : Nat) : releaseByWriteBack r i d = d := by
  simp only [releaseByWriteBack, held]

/-- The line written back moved past, tallied and counted unless the drain has reached it. -/
theorem finishWriteBack_eq (span : findSpan d j.slot j.first = some p) : finishWriteBack j d = beginLines j (releaseByWriteBack j.slot p.progress
    (linesPast j 1 (!reached d j.slot p.progress) d)) := by
  have same : reached (moveProgress j d) j.slot p.progress = reached d j.slot p.progress := rfl
  simp only [finishWriteBack, progressOf_eq span, same]
  cases reached d j.slot p.progress
  · rw [Bool.not_false, linesPast_tallied]
    rfl
  · rfl

/-- The part as the last transfer of a write-back leaves it to the engine. -/
theorem finishRun_writeBack (phase : j.phase = .writeBack) (held : d.delivery.held = none)
    (span : findSpan d j.slot j.first = some p) : finishRun j d = beginLines j (linesPast j 1 (!reached d j.slot p.progress) d) := by
  rw [← releaseByWriteBack_noHold (d := linesPast j 1 _ d) (by rw [(linesPast_frame ..).2.2.2.2.2, held]) j.slot p.progress,
    ← finishWriteBack_eq span]
  simp only [finishRun, phase]

theorem writeBack_done (phase : j.phase = .writeBack) (held : d.delivery.held = none) (span : findSpan d j.slot j.first = some p)
    (ht : j.slot < d.map.spans.length) (within : p.progress ≤ j.last) (skipped : ∀ x, p.progress < x → x ≤ j.last → reached d j.slot x = true) :
    finishRun j d = finishSpan j (linesPast j (j.last + 1 - p.progress) (!reached d j.slot p.progress) d) := by
  rw [finishRun_writeBack phase held span, beginLines_done (findSpan_linesPast span ht _ _) (by rwa [linesPast_length])
    (by simpa [spanPast] using within), linesPast_linesPast]
  · congr 2
    simp only [spanPast]
    omega
  · intro x low high
    rw [reached_linesPast]
    exact skipped x low high

theorem writeBack_starts (phase : j.phase = .writeBack) (held : d.delivery.held = none) (span : findSpan d j.slot j.first = some p)
    (ht : j.slot < d.map.spans.length) (low : p.progress < n) (high : n ≤ j.last)
    (skipped : ∀ x, p.progress < x → x < n → reached d j.slot x = true) (ahead : reached d j.slot n = false) :
    finishRun j d = startLine j n (linesPast j (n - p.progress) (!reached d j.slot p.progress) d) := by
  rw [finishRun_writeBack phase held span, beginLines_starts (n := n) (findSpan_linesPast span ht _ _) (by rwa [linesPast_length])
    (show p.progress + 1 ≤ n from low) high, linesPast_linesPast]
  · congr 2
    simp only [spanPast]
    omega
  · intro x after before
    rw [reached_linesPast]
    exact skipped x after before
  · rwa [reached_linesPast]

/-- A span done after the write-back of a line, as the part is told to stand. -/
theorem withSpanDone_linesPast (s : State) (j : Job) (a b : Nat) (c : Bool) : withSpanDone (withLinesPast s j a c) j b =
    s.onDevice fun d => finishSpan j (linesPast j (a + b) c (setBus none d)) := by
  rw [withSpanDone_eq, withLinesPast_eq]
  simp only [State.onDevice, ← linesPast_linesPast]
  cases c <;> rfl

theorem exec_writeBack_done (bus : s.arbiter.onBus = some m) (by_ : m.byEngine = true) (alive : m.orphan = false) (write : m.write = true)
    (job : s.engine.job = some j) (ends : j.stop ≤ j.next + 4 * m.beats) (phase : j.phase = .writeBack) (held : s.delivery.held = none)
    (port : portState s.toDevice ≠ .waiting) (span : findSpan s.toDevice j.slot j.first = some p) (ht : j.slot < s.map.spans.length)
    (within : p.progress ≤ j.last) (skipped : ∀ x, p.progress < x → x ≤ j.last → reached s.toDevice j.slot x = true)
    (order : s.engine.order = []) : exec (.memoryTransferComplete []) s =
      .next (withSpanDone (withLinesPast s j 0 (!reached s.toDevice j.slot p.progress)) j (j.last + 1 - p.progress)) := by
  have finishes := writeBack_done (j := jobAfter m [] j) (d := runOver m [] j s.toDevice) phase held span ht within skipped
  rw [exec_completes_engine bus by_ (by rw [write]; rfl), State.onDevice, completeTransfer_runEnds by_ alive job ends, ← runOver,
    finishes, arbitrate_wakes_done (by rw [(linesPast_frame ..).2.2.2.2.1]; exact order) (by
      rw [portState, (linesPast_frame ..).2.1]; exact port), withSpanDone_linesPast, Nat.zero_add,
    show reached (runOver m [] j s.toDevice) (jobAfter m [] j).slot p.progress = reached s.toDevice j.slot p.progress from rfl]
  cases reached s.toDevice j.slot p.progress <;> rfl

theorem exec_writeBack_claims {c : Bool} (bus : s.arbiter.onBus = some m) (by_ : m.byEngine = true) (alive : m.orphan = false)
    (write : m.write = true) (job : s.engine.job = some j) (ends : j.stop ≤ j.next + 4 * m.beats) (port : portState s.toDevice ≠ .waiting)
    (claims : finishRun (jobAfter m [] j) (runOver m [] j s.toDevice) = claimBus (setJob k (linesPast j n c (runOver m [] j s.toDevice))))
    (tests : PassesTests k (claimBus (setJob k (linesPast j n c (runOver m [] j s.toDevice))))) :
    exec (.memoryTransferComplete []) s = .next (withJobOnBus (withLinesPast s j n c) k) := by
  rw [exec_completes_engine bus by_ (by rw [write]; rfl), State.onDevice, completeTransfer_runEnds by_ alive job ends, ← runOver,
    arbitrate_wakes_claimed (by rw [(linesPast_frame ..).2.2.1]; rfl) (by rw [portState, (linesPast_frame ..).2.1]; exact port) claims tests,
    withLinesPast_eq]
  cases c <;> rfl

end

end Sys2Proof.Machine

namespace Sys2Proof.EngineRuns

open Sys2Proof.Machine

/-- Settles O46: the temporal fetch, a line reached, and the stored read. -/
theorem lineFetchesComplete : Obligations.LineFetchesComplete := by
  intro s m l j p i bytes ends hi hbytes
  obtain ⟨span, within, ht⟩ := ends.span
  have r : progressOf (runOver m l j s.toDevice) (jobAfter m l j) = i := (progressOf_eq (j := jobAfter m l j) span).trans hi.symm
  have fetched : (jobAfter m l j).fetched = bytes := hbytes.symm
  have lanes : (jobAfter m l j).lanes = j.lanes := by simp [jobAfter, ends.bus.2.2.2.1]
  refine ⟨fun x out grade head phase ahead field output hhead => ?_, fun phase behind last order => ?_, fun phase => ?_⟩
  · have computed : finishRun (jobAfter m l j) (runOver m l j s.toDevice) =
        claimBus (setJob (fixedJob s.control.geometry i out grade head (jobAfter m l j)) (setBus none s.toDevice)) := by
      have ph : (jobAfter m l j).phase = .lineFetch := phase
      have valid : referenceValid (runOver m l j s.toDevice) (jobAfter m l j).slot = referenceValid s.toDevice j.slot := rfl
      have here : reached (runOver m l j s.toDevice) (jobAfter m l j).slot i = false := ahead
      simp only [finishRun, ph, r, computeLine, here, Bool.false_eq_true, if_false, valid, fetched]
      exact (fixLine_eq (d := runOver m l j s.toDevice) (j := jobAfter m l j) field output).trans (by rw [hhead]; rfl)
    have goes := exec_runEnds_claims ends computed (passesTests_fixed (e := s.toDevice) ..)
    exact ⟨fun values hv => by rw [goes, hv]; rfl, fun hv => by rw [goes, hv]; rfl⟩
  · refine exec_runEnds_done (k := jobAfter m l j) ends rfl rfl ?_ order
    have ph : (jobAfter m l j).phase = .lineFetch := phase
    have here : reached (runOver m l j s.toDevice) (jobAfter m l j).slot i = true := behind
    have moved : findSpan (moveProgress (jobAfter m l j) (runOver m l j s.toDevice)) j.slot j.first = some (spanPast j.grade 1 false p) :=
      findSpan_linesPast (d := runOver m l j s.toDevice) (j := jobAfter m l j) span ht 1 false
    simp only [finishRun, ph, r, computeLine, here, if_true]
    rw [beginLines_done (d := moveProgress (jobAfter m l j) (runOver m l j s.toDevice)) (j := jobAfter m l j) moved
      (by rw [moveProgress_eq, linesPast_length]; exact ht) (by simp only [spanPast, jobAfter]; omega)
      (fun x low high => by simp only [spanPast, jobAfter] at low high; omega), moveProgress_eq, linesPast_linesPast]
    congr 2
    simp only [spanPast, jobAfter]
    omega
  · have ph : (jobAfter m l j).phase = .storedRead := phase
    refine exec_runEnds_claims ends ?_ (testTransfer_run (.inr rfl) _)
    simp only [finishRun, ph, r, fetched]
    rfl

/-- Settles O60: the line just written, the lines after it, and the span's end. -/
theorem writeBacksEndTheirLine : Obligations.WriteBacksEndTheirLine := by
  refine ⟨fun s m j p bus by_ alive write engine phase ends filled held span last port ht => ?_,
    fun s m j p i counted bus by_ alive write job claims phase ends held port span hi within ht hc => ⟨fun skipped order => ?_,
      fun n low high skipped ahead => ?_⟩⟩
  · have job : s.engine.job = some j := by rw [engine]
    have order : s.engine.order = [] := by rw [engine]
    have ahead : reached s.toDevice j.slot p.progress = false := by simp only [reached, filled]
    have merged : modifySpan j.slot j.first (fun q => { q with state := .done }) (modifySpan j.slot j.first (spanPast j.grade 1 true) s.toDevice) =
        modifySpan j.slot j.first (fun q => { q with state := .done, progress := q.progress + 1, tallies := addTally j.grade q.tallies })
          s.toDevice :=
      modifySpan_modifySpan (f := spanPast j.grade 1 true) (g := fun q => { q with state := .done }) fun _ => rfl
    have maps := congrArg Device.map merged
    rw [modifySpan_eq j.slot j.first fun q => { q with state := .done, progress := q.progress + 1, tallies := addTally j.grade q.tallies }]
      at maps
    rw [exec_writeBack_done bus by_ alive write job ends phase held port span ht last.le
      (fun x low high => absurd (last ▸ low) (not_lt.2 high)) order, ahead, last, Nat.add_sub_cancel_left, withSpanDone_linesPast, Nat.zero_add]
    have idle : ({ s.engine with job := none, claiming := false } : Engine) = { order := [], job := none, claiming := false } := by
      rw [engine]
    exact congrArg₂ (fun x y => Host.Outcome.next
      { s.onDevice fun d => finishSpan j (linesPast j 1 true (setBus none d)) with map := x, engine := y }) maps idle
  · subst hi hc
    exact exec_writeBack_done bus by_ alive write job ends phase held port span ht within skipped order
  · subst hi hc
    have starts := writeBack_starts (j := jobAfter m [] j) (d := runOver m [] j s.toDevice) phase held span ht low high skipped ahead
    have lanes : (jobAfter m [] j).lanes = j.lanes.drop (4 * m.beats) := by simp [jobAfter, write]
    refine ⟨fun usable => ?_, fun x out grade head unusable field output hhead => ?_⟩
    · have fetches := starts.trans (startLine_fetch (d := linesPast (jobAfter m [] j) _ _ (runOver m [] j s.toDevice))
        (j := jobAfter m [] j) (by rw [temporalUsable_linesPast]; exact usable))
      rw [(linesPast_frame ..).1] at fetches
      have after := findSpan_linesPast (j := jobAfter m [] j) (d := runOver m [] j s.toDevice) span ht (n - p.progress)
        (!reached s.toDevice j.slot p.progress)
      have here : (spanPast (jobAfter m [] j).grade (n - p.progress) (!reached s.toDevice j.slot p.progress) p).progress = n := by
        simp only [spanPast]
        omega
      have tests := passesTests_fetch (j := jobAfter m [] j) (d := claimBus (setJob (lineFetchJob s.control.geometry n (jobAfter m [] j))
          (linesPast j (n - p.progress) (!reached s.toDevice j.slot p.progress) (runOver m [] j s.toDevice)))) after
        (by rw [here]; exact (reached_linesPast ..).trans ahead)
        ((referenceValid_linesPast ..).trans (referenceValid_of_usable (d := s.toDevice) usable)) s.control.geometry
      rw [here] at tests
      rw [exec_writeBack_claims bus by_ alive write job ends port fetches tests]
      simp only [lineFetchJob, lanes]
      rfl
    · have fixes := starts.trans ((startLine_fix (d := linesPast (jobAfter m [] j) _ _ (runOver m [] j s.toDevice))
        (j := jobAfter m [] j) (by rw [temporalUsable_linesPast]; exact unusable)).trans (fixLine_eq (x := x) (out := out) (grade := grade)
          (by rw [(linesPast_frame ..).1]; exact field) (by rw [(linesPast_frame ..).1]; exact output)))
      rw [(linesPast_frame ..).1, ← show head = engineHead (runOver m [] j s.toDevice).control.geometry.order n
        (runOver m [] j s.toDevice).control.repair.stationTag grade from hhead] at fixes
      have goes := exec_writeBack_claims bus by_ alive write job ends port fixes (passesTests_fixed (e := runOver m [] j s.toDevice) ..)
      exact ⟨fun values hv => by rw [goes, hv]; rfl, fun hv => by rw [goes, hv]; rfl⟩

/-- Settles O45: what is left of the gather list, and the first line left after its end. -/
theorem gatherFetchesComplete : Obligations.GatherFetchesComplete := by
  intro s m l j p f rest values fields ends phase gather hvalues hfields
  obtain ⟨span, within, ht⟩ := ends.span
  have fetched : finishFetch s.control.geometry (jobAfter m l j) =
      atFetch s.control.geometry { jobAfter m l j with gather := rest, fields := fields } :=
    finishFetch_eq (j := jobAfter m l j) _ gather (hfields.trans (by rw [hvalues]; rfl))
  have lanes : (jobAfter m l j).lanes = j.lanes := by simp [jobAfter, ends.bus.2.2.2.1]
  have goes : finishRun (jobAfter m l j) (runOver m l j s.toDevice) =
      continueGather (atFetch s.control.geometry { jobAfter m l j with gather := rest, fields := fields })
        (setJob (atFetch s.control.geometry { jobAfter m l j with gather := rest, fields := fields }) (setBus none s.toDevice)) := by
    rw [← fetched]
    exact finishRun_gather (j := jobAfter m l j) phase _
  have atNext : ∀ f' rest', atFetch s.control.geometry { jobAfter m l j with gather := f' :: rest', fields := fields } =
      fetchJob s.control.geometry f' rest' fields j := fun f' rest' => by
    simp only [atFetch, withSampleFetch, withRun, fetchJob, lanes]
    rfl
  refine ⟨fun f' rest' more left own => ?_, fun f' rest' f'' rest'' more left refers lost kept => ?_, fun more behind order => ?_,
    fun noneLeft behind order => ?_, fun noneLeft ahead => ?_⟩
  · subst more
    rw [atNext] at goes
    rw [exec_runEnds_claims ends (goes.trans (continueGather_next (j := fetchJob s.control.geometry f' rest' fields j) rfl left own))
      (passesTests_gather (d := claimBus (setJob _ (setBus none s.toDevice))) left own)]
    simp only [fetchJob, phase]
  · subst more
    rw [atNext] at goes
    have own : isReferenceFetch f'' = false := by
      have := (List.mem_filter.1 (kept ▸ List.mem_cons_self : f'' ∈ (f' :: rest').filter fun x => !isReferenceFetch x)).2
      simpa using this
    obtain ⟨k, hk, step⟩ := continueGather_lost (j := fetchJob s.control.geometry f' rest' fields j)
      (d := setJob (fetchJob s.control.geometry f' rest' fields j) (setBus none s.toDevice)) rfl left refers lost
    have next : k = fetchJob s.control.geometry f'' rest'' fields j := by
      rw [hk]
      simp only [fetchJob, kept, atFetch, withSampleFetch, withRun]
      rfl
    rw [next] at step
    rw [exec_runEnds_claims ends (goes.trans step) (passesTests_gather (d := claimBus (setJob _ (setBus none s.toDevice))) left (.inl own))]
    simp only [fetchJob, phase]
  · obtain ⟨f', rest', rfl⟩ := List.exists_cons_of_ne_nil more
    rw [atNext] at goes
    refine exec_runEnds_done (k := fetchJob s.control.geometry f' rest' fields j) ends rfl rfl ?_ order
    rw [goes, linesPast_zero, continueGather_reached (j := fetchJob s.control.geometry f' rest' fields j)
      (d := setJob (fetchJob s.control.geometry f' rest' fields j) (setBus none s.toDevice)) (by simp [fetchJob]) behind]
    rfl
  all_goals
    subst noneLeft
    obtain ⟨k, hk⟩ : ∃ k, k = gatheredJob s.control.geometry fields (jobAfter m l j) := ⟨_, rfl⟩
    have slot : k.slot = j.slot := by rw [hk]; rfl
    have first : k.first = j.first := by rw [hk]; rfl
    have last : k.last = j.last := by rw [hk]; rfl
    have ended : finishRun (jobAfter m l j) (runOver m l j s.toDevice) = beginLines k (setJob k (setBus none s.toDevice)) :=
      goes.trans ((continueGather_nil rfl).trans (by rw [hk]; rfl))
    rw [← slot, ← first] at span
    rw [← last] at within
  · refine exec_runEnds_done (k := k) ends slot first (ended.trans ?_) order
    rw [← slot, ← last] at behind
    rw [beginLines_done (d := setJob k (setBus none s.toDevice)) (j := k) span (by rw [slot]; exact ht) (by omega) fun x _ high => behind x high,
      last, linesPast_setJob, runOver, linesPast_setJob]
    rfl
  · rw [← slot] at ahead
    have starts : finishRun (jobAfter m l j) (runOver m l j s.toDevice) = startLine k p.progress (setJob k (setBus none s.toDevice)) := by
      rw [ended, beginLines_starts (d := setJob k (setBus none s.toDevice)) (j := k) (n := p.progress) span (by rw [slot]; exact ht) le_rfl
        within (fun x low high => absurd high (not_lt.2 low)) ahead, Nat.sub_self, linesPast_zero]
    cases usable : temporalUsable s.toDevice k.slot p.progress with
    | true =>
      have fetches := starts.trans (startLine_fetch (d := setJob k (setBus none s.toDevice)) (j := k) usable)
      have tests := passesTests_fetch (d := claimBus (setJob (lineFetchJob s.control.geometry p.progress k) (setBus none s.toDevice)))
        span ahead (referenceValid_of_usable (d := s.toDevice) usable) s.control.geometry
      rw [slot] at usable
      refine ⟨_, _, exec_runEnds_claims ends fetches tests, rfl, by rw [hk]; rfl, by rw [hk]; rfl, fun _ => ?_, by simp [usable]⟩
      simp only [lineFetchJob, hk, gatheredJob, lanes]
      rfl
    | false =>
      obtain ⟨out, grade, head, fixed⟩ := fixLine_claims k p.progress none (setJob k (setBus none s.toDevice))
      have claims := (starts.trans (startLine_fix (d := setJob k (setBus none s.toDevice)) (j := k) usable)).trans fixed
      rw [slot] at usable
      refine ⟨_, _, exec_runEnds_claims ends claims (passesTests_fixed (e := s.toDevice) ..), rfl, ?_, ?_, by simp [usable],
        fun _ => (fixedJob_phase (d := s.toDevice)).symm⟩
      · rw [hk]; cases out <;> rfl
      · rw [hk]; cases out <;> rfl

end Sys2Proof.EngineRuns
end

section
/-! PROOFS. The write-back of the held line releases the hold (sections 1.5, 6.5 and 7.3). -/

namespace Sys2Proof.Machine

section
variable {d e : Device} {s : State} {m : MemTransfer} {j : Job} {p : Span} {r : DrainRecord} {h : HeldRead} {u : BurnerTransfer} {f : Span → Span}

/-! ### What the engine's own work never takes from the spans (R101, R110) -/

/-- e has as many spans as d, and every span of d is still there in e, its lines tallied as they were and r where it was or past it. -/
structure SpansGrow (d e : Device) : Prop where
  length : ∀ t, (spansOf e t).length = (spansOf d t).length
  find : ∀ t first p, findSpan d t first = some p → ∃ q, findSpan e t first = some q ∧ q.tallies = p.tallies ∧ p.progress ≤ q.progress

theorem SpansGrow.of_map (same : e.map = d.map) : SpansGrow d e where
  length := fun t => by rw [spansOf, same]; rfl
  find := fun t first p span => ⟨p, by rw [findSpan, spansOf, same]; exact span, rfl, le_rfl⟩

theorem SpansGrow.trans {c : Device} (one : SpansGrow c d) (two : SpansGrow d e) : SpansGrow c e where
  length := fun t => (two.length t).trans (one.length t)
  find := fun t first p span => by
    obtain ⟨q, found, tallies, progress⟩ := one.find t first p span
    obtain ⟨x, found', tallies', progress'⟩ := two.find t first q found
    exact ⟨x, found', tallies'.trans tallies, progress.trans progress'⟩

theorem findSpan_modifySpan_any (keeps : ∀ q, (f q).first = q.first) (t first t' first' : Nat) (d : Device) :
    findSpan (modifySpan t first f d) t' first' =
      (findSpan d t' first').map fun q => if t' = t ∧ q.first = first then f q else q := by
  rw [findSpan, spansOf_modifySpan]
  by_cases here : t' = t
  · subst here
    simp only [if_true, true_and, List.find?_map, findSpan]
    congr 2
    funext q
    by_cases hq : q.first = first <;> simp [hq, keeps]
  · simp [here, findSpan]

theorem SpansGrow.modifySpan (keeps : ∀ q, (f q).first = q.first ∧ (f q).tallies = q.tallies ∧ q.progress ≤ (f q).progress)
    (t first : Nat) (d : Device) : SpansGrow d (modifySpan t first f d) where
  length := fun t' => by
    rw [spansOf_modifySpan]
    split
    · next same => rw [List.length_map, same]
    · rfl
  find := fun t' first' p span => by
    rw [findSpan_modifySpan_any (fun q => (keeps q).1), span]
    refine ⟨_, rfl, ?_⟩
    dsimp only
    split
    · exact (keeps p).2
    · exact ⟨rfl, le_rfl⟩

theorem SpansGrow.finishSpan (j : Job) (d : Device) : SpansGrow d (finishSpan j d) :=
  (SpansGrow.modifySpan (f := fun q => { q with state := .done }) (fun _ => ⟨rfl, rfl, le_rfl⟩) j.slot j.first d).trans (.of_map rfl)

theorem SpansGrow.startLine (j : Job) (i : Nat) (d : Device) : SpansGrow d (startLine j i d) :=
  .of_map (by simp only [Machine.startLine]; split <;> simp)

theorem SpansGrow.lineWork (j : Job) (fuel : Nat) (d : Device) : SpansGrow d (lineWork j fuel d) := by
  induction fuel generalizing d with
  | zero => exact .finishSpan j d
  | succ fuel ih =>
    simp only [Machine.lineWork]
    split
    · exact .finishSpan j d
    · split
      · exact (SpansGrow.modifySpan (f := fun q => { q with progress := q.progress + 1 }) (fun _ => ⟨rfl, rfl, Nat.le_succ _⟩) j.slot j.first
          d).trans (ih _)
      · exact .startLine j _ d

theorem SpansGrow.beginLines (j : Job) (d : Device) : SpansGrow d (beginLines j d) := .lineWork j _ d

theorem SpansGrow.endGather (j : Job) (d : Device) : SpansGrow d (endGather j d) := by
  unfold Machine.endGather
  extract_lets k
  exact (SpansGrow.of_map (d := d) (e := setJob k d) rfl).trans (.beginLines _ _)

theorem SpansGrow.continueGather (j : Job) (d : Device) : SpansGrow d (continueGather j d) := by
  unfold Machine.continueGather
  split
  · exact .endGather j d
  · split
    · exact .finishSpan j d
    · split
      · extract_lets k
        split
        · exact .endGather k d
        · exact .of_map rfl
      · exact .of_map rfl

theorem SpansGrow.examineOrder (l : List SpanRef) (d : Device) : SpansGrow d (examineOrder l d) := by
  induction l generalizing d with
  | nil => exact .of_map rfl
  | cons x rest ih =>
    unfold Machine.examineOrder
    extract_lets _ e
    have popped : SpansGrow d e := .of_map rfl
    split
    · exact popped.trans (ih e)
    · next p _ =>
      split
      · exact popped.trans ((SpansGrow.modifySpan (f := fun q => { q with state := .done }) (fun _ => ⟨rfl, rfl, le_rfl⟩) _ _ _).trans (ih _))
      · extract_lets t
        have taken : SpansGrow d t := popped.trans
          (((SpansGrow.modifySpan (f := fun q => { q with state := .active }) (fun _ => ⟨rfl, rfl, le_rfl⟩) _ _ _).trans
            (.of_map rfl)).trans (.continueGather _ _))
        split
        · exact taken.trans (ih t)
        · exact taken

theorem SpansGrow.wakeEngine (d : Device) : SpansGrow d (wakeEngine d) := by
  unfold Machine.wakeEngine
  split
  · exact .examineOrder _ _
  · exact .of_map rfl

/-! ### The hold released (R11, R133, R135) -/

/-- The drain record with the held line handled and its ticks charged. -/
def releasedRecord (d : Device) (h : HeldRead) (r : DrainRecord) : DrainRecord :=
  fixEntry d h.line .handled (chargeRecord h.ticks r)

theorem releaseByWriteBack_delivery (held : d.delivery.held = some h) (record : d.delivery.record = some r) :
    (releaseByWriteBack r.slot h.line d).delivery =
      { d.delivery with record := some (releasedRecord (chargeHold h.ticks d) h r), held := none } := by
  simp [releaseByWriteBack, held, record, dropHold, settleLine_delivery, chargeHold_delivery record, releasedRecord]

theorem releaseByWriteBack_port (held : d.delivery.held = some h) (record : d.delivery.record = some r) :
    (releaseByWriteBack r.slot h.line d).port = { d.port with transfer := d.port.transfer.map releaseTransfer } := by
  simp [releaseByWriteBack, held, record, releasePort]

theorem releaseByWriteBack_link (held : d.delivery.held = some h) (record : d.delivery.record = some r) :
    (releaseByWriteBack r.slot h.line d).link = (chargeHold h.ticks d).link := by
  simp [releaseByWriteBack, held, record]

theorem releaseByWriteBack_reports (held : d.delivery.held = some h) (record : d.delivery.record = some r) :
    (releaseByWriteBack r.slot h.line d).reports = d.reports := by
  simp [releaseByWriteBack, held, record, settleLine, countDecision, onRecord]

theorem releaseByWriteBack_frame (t i : Nat) (d : Device) : (releaseByWriteBack t i d).control = d.control ∧
    (releaseByWriteBack t i d).arbiter = d.arbiter ∧ (releaseByWriteBack t i d).ring = d.ring ∧
    (releaseByWriteBack t i d).map = d.map := by
  unfold releaseByWriteBack
  split
  · split <;> simp
  · exact ⟨rfl, rfl, rfl, rfl⟩

end

end Sys2Proof.Machine

namespace Sys2Proof.EngineRuns

open Sys2Proof.Machine

/-- Settles O44: the hold released, the engine's work gone on, and the remainder formed under the handled entry. -/
theorem writeBackReleasesTheHold : Obligations.WriteBackReleasesTheHold := by
  intro s m j p h r u q bus by_ alive write job phase ends span here ht held record slot draining state above inside hu mode read formed
    left valid hslot hline address samples
  have ahead : reached s.toDevice j.slot p.progress = false := by
    rw [reached, ← slot, state, here, deliveryPosition, record]
    exact above
  let e := linesPast j 1 true (runOver m [] j s.toDevice)
  let x := releaseByWriteBack r.slot h.line e
  let z := wakeEngine (beginLines (jobAfter m [] j) x)
  have run : wakeEngine (finishRun (jobAfter m [] j) (runOver m [] j s.toDevice)) = z := by
    have finishes := finishWriteBack_eq (j := jobAfter m [] j) (d := runOver m [] j s.toDevice) span
    rw [show reached (runOver m [] j s.toDevice) (jobAfter m [] j).slot p.progress = false from ahead, here,
      show (jobAfter m [] j).slot = r.slot from slot.symm] at finishes
    simp only [finishRun, show (jobAfter m [] j).phase = .writeBack from phase, finishes]
    rfl
  have held' : e.delivery.held = some h := held
  have record' : e.delivery.record = some r := record
  have delivery : z.delivery = { s.delivery with record := some (releasedRecord (chargeHold h.ticks e) h r), held := none } := by
    rw [wakeEngine_delivery, beginLines_delivery, releaseByWriteBack_delivery held' record']
    rfl
  have port : z.port = { s.port with transfer := some { u with mode := .waiting, holdAsked := false } } := by
    rw [wakeEngine_port, beginLines_port, releaseByWriteBack_port held' record', show e.port = s.port from rfl, hu]
    simp [releaseTransfer, mode]
  have arbiter : z.arbiter = { s.arbiter with onBus := none } := by
    rw [wakeEngine_arbiter, beginLines_arbiter, (releaseByWriteBack_frame ..).2.1]
    rfl
  have control : z.control = s.control := by
    rw [wakeEngine_control, beginLines_control, (releaseByWriteBack_frame ..).1]
    rfl
  have ring : z.ring = s.ring := by
    rw [wakeEngine_ring, beginLines_ring, (releaseByWriteBack_frame ..).2.2.1]
    rfl
  have link : z.link = { s.link with causes := if r.holdBudget ≤ r.allowanceLeft ∧ r.allowanceLeft - h.ticks < r.holdBudget then
      s.link.causes ||| 0x200 else s.link.causes } := by
    rw [wakeEngine_link, beginLines_link, releaseByWriteBack_link held' record', chargeHold_link record']
    rfl
  have reports : z.reports.counters = { s.reports.counters with linesRepaired := min (s.reports.counters.linesRepaired + 1) 4294967295 } := by
    rw [wakeEngine_reports, beginLines_reports, releaseByWriteBack_reports held' record']
    rfl
  have grown : SpansGrow e z := (SpansGrow.of_map (releaseByWriteBack_frame ..).2.2.2).trans ((SpansGrow.beginLines _ _).trans (.wakeEngine _))
  obtain ⟨p', span', tallies, progress⟩ := grown.find _ _ _ (findSpan_linesPast (d := runOver m [] j s.toDevice) span ht 1 true)
  obtain ⟨c, hc⟩ : ∃ c, u.beats - u.next = c + 1 := ⟨u.beats - u.next - 1, by omega⟩
  let v := { u with mode := TransferMode.waiting, holdAsked := false }
  let d := { z with arbiter := { z.arbiter with passOver := false } }
  have on : OnDrainLine d (releasedRecord (chargeHold h.ticks e) h r) h.line q (u.addr + 4 * u.next) (c + 1) := by
    refine ⟨by simp only [d, delivery], by simp only [d, ring]; exact draining, ?_, fun k hk => ?_⟩
    · simp only [slotAt, d, ring]
      exact state
    · obtain ⟨-, -, ⟨-, packet, -⟩, -, ⟨-, fits⟩, -, -, -⟩ := valid
      have linePitch : 0 < s.control.geometry.linePitch := by omega
      have pitch : 0 < s.control.geometry.slotPitch := lt_of_lt_of_le (Nat.mul_pos (by omega) linePitch) fits
      simp only [d, control]
      refine (nameAddress_line_iff pitch linePitch packet fits).2 ⟨hslot, hline, by omega, ?_⟩
      rw [address, lineAddress, lineAddress, Nat.add_assoc]
      rfl
  have handled : entryOf (releasedRecord (chargeHold h.ticks e) h r) h.line = .handled :=
    entryOf_fixEntry_self (r := chargeRecord h.ticks r) inside _ _
  have formed' := formPart_one_line none on (by simp only [d, control]; omega) handled rfl (by simp) (.inl rfl)
  have source : sampleAddress d (releasedRecord (chargeHold h.ticks e) h r) h.line q .handled = u.addr + 4 * u.next := by
    rw [address]
    simp only [sampleAddress, d, control]
    exact ite_self _
  rw [source, ← hc] at formed'
  have grants : arbitrate z = _ := arbitrate_burner_first (by rw [arbiter]) (portState_eq_waiting.2 ⟨v, by rw [port], rfl⟩)
    (by simp [passesOver, port, read])
  rw [grantBurner_forms (t := v) (by rw [port]) read formed, forwardPart_part (t := v) (m := u.addr + 4 * u.next) (by
    rw [show formPart (v.beats - v.next) (v.addr + 4 * v.next) none d = _ from formed']), show formPart (v.beats - v.next)
      (v.addr + 4 * v.next) none d = _ from formed', grantEngineIfFree_busy (by simp)] at grants
  have goes : exec (.memoryTransferComplete []) s = .next (s.onDevice fun _ => arbitrate z) := by
    rw [exec_completes_engine bus by_ (by rw [write]; rfl), State.onDevice, completeTransfer_runEnds by_ alive job ends, ← runOver, run]
    rfl
  rw [grants] at goes
  refine ⟨_, _, goes, congrArg Delivery.held delivery, rfl, handled, fixEntry_position (r := chargeRecord h.ticks r) above (chargeHold h.ticks e) .handled, rfl, rfl,
    congrArg Link.causes link, ?_, ?_,
    ⟨p', span', tallies, progress⟩, ?_, ?_⟩
  · show z.reports.counters.linesRepaired = _
    rw [reports]
  · show z.reports.counters.holdExpiries = _
    rw [reports]
  · rfl
  · simp only [State.onDevice, setBus, forwarded, lineTags_length, read]
    rfl

end Sys2Proof.EngineRuns
end

section
/-! PROOFS. What the beats of a fill, the line checker and the damage map do to the part (sections 3.3 to 3.6, 4.2 and 4.4). -/

namespace Sys2Proof.Machine

section
variable {a d e : Device} {s : State} {u : BurnerTransfer} {k i q n : Nat} {b : Beat} {x : Enables} {c : OpenLine}

/-! ### A write beat of a line in a run (R2, R25) -/

theorem exec_writesLine (at_ : WritesLine s u k i q) (b : Beat) (x : Enables) : exec (.writeBeatAccepted b x) s =
    .next { s with toDevice := wakeEngine (runningBeat (u.next == 0) k i q b x (withBeatAccepted s u b x)) } := by
  obtain ⟨⟨ht, write, mode, more⟩, running, place⟩ := at_
  have goes : exec (.writeBeatAccepted b x) s = .next (s.onDevice (acceptWrite b x)) :=
    exec_of_guard (c := .writeBeatAccepted b x) (by simp [Machine.guard, writeBeatDue, ht, write, mode, more])
  have accepted : acceptBeat u b x s.toDevice = withBeatAccepted s u b x := rfl
  have name : nameAddress (withBeatAccepted s u b x).control.geometry (u.addr + 4 * u.next) = .line k i q := place
  have run : (withBeatAccepted s u b x).control.run = .running := running
  rw [goes, State.onDevice, acceptWrite]
  simp only [ht, accepted, takeWriteBeat, name, run]

theorem nameAddress_offset {g : Geometry} (name : nameAddress g n = .line k i q) : q < 2 * g.samples + 8 := by
  unfold nameAddress at name
  split at name
  · dsimp only at name
    split at name
    · split at name
      · next fits =>
        simp only [BeatName.line.injEq] at name
        rw [← name.2.2]
        exact fits
      · simp at name
    · simp at name
  · simp at name

/-- A beat that begins no slot, as R25 sees it. -/
theorem begins_eq_false {first : Nat} (later : ¬ (first = 0 ∧ i = 0 ∧ q = 0)) : (first == 0 && i == 0 && q == 0) = false := by
  simpa [and_assoc] using later

/-! ### What the fill's work on slot k changes (R50 to R57, R65 to R73) -/

/-- Work of the checker and the map on the fill of slot k: nothing changes but the checker, slot k's spans and LOSSY flag, the counts of
lines, and the cause DAMAGE_LOST. -/
structure FillWork (k : Nat) (d e : Device) : Prop where
  same : e.control = d.control ∧ e.port = d.port ∧ e.arbiter = d.arbiter ∧ e.engine = d.engine ∧ e.delivery = d.delivery
  ring : e.ring = { d.ring with slots := e.ring.slots }
  slots : e.ring.slots.length = d.ring.slots.length ∧ ∀ t, t ≠ k → slotAt e t = slotAt d t
  entry : slotAt e k = { slotAt d k with flags := { (slotAt d k).flags with lossy := (slotAt e k).flags.lossy } }
  lossy : (slotAt d k).flags.lossy = true → (slotAt e k).flags.lossy = true
  spans : e.map.spans.length = d.map.spans.length ∧ ∀ t, t ≠ k → spansOf e t = spansOf d t
  reports : e.reports = { d.reports with counters := { d.reports.counters with
    linesChecked := e.reports.counters.linesChecked, linesDamaged := e.reports.counters.linesDamaged,
    linesAbsorbed := e.reports.counters.linesAbsorbed, linesLost := e.reports.counters.linesLost,
    chromaLines := e.reports.counters.chromaLines } }
  link : e.link = d.link ∨ e.link = { d.link with causes := d.link.causes ||| 0x20 }

theorem FillWork.of_checker (same : e = { d with checker := e.checker }) : FillWork k d e := by
  rw [same]
  exact ⟨⟨rfl, rfl, rfl, rfl, rfl⟩, rfl, ⟨rfl, fun _ _ => rfl⟩, rfl, id, ⟨rfl, fun _ _ => rfl⟩, rfl, .inl rfl⟩

theorem FillWork.trans (h : FillWork k a d) (g : FillWork k d e) : FillWork k a e where
  same := by
    obtain ⟨control, port, arbiter, engine, delivery⟩ := g.same
    rw [control, port, arbiter, engine, delivery]
    exact h.same
  ring := by
    rw [g.ring, h.ring]
  slots := ⟨g.slots.1.trans h.slots.1, fun t ne => (g.slots.2 t ne).trans (h.slots.2 t ne)⟩
  entry := by
    rw [g.entry, h.entry]
  lossy := fun l => g.lossy (h.lossy l)
  spans := ⟨g.spans.1.trans h.spans.1, fun t ne => (g.spans.2 t ne).trans (h.spans.2 t ne)⟩
  reports := by
    rw [g.reports, h.reports]
  link := by
    rcases h.link with one | one <;> rcases g.link with two | two
    · exact .inl (two.trans one)
    · exact .inr (by rw [two, one])
    · exact .inr (two.trans one)
    · exact .inr (by rw [two, one]; simp [BitVec.or_assoc])

theorem free_eq (m : DamageMap) : decide (0 < freeRecords m) = decide ((m.spans.map List.length).sum < 1024) := by
  rw [decide_eq_decide, freeRecords, usedRecords, Config.poolSize]
  omega

/-- What the map records of line i handed over for slot k (R65 to R73). -/
def recorded (d : Device) (k i : Nat) (c : Causes) (first : Bool) : Recorded :=
  recordLine (spansOf d k) (decide ((d.map.spans.map List.length).sum < 1024)) i c first

/-- A hand-over, said whole: the map's part, a line lost, and the counts (R55, R65 to R73). -/
theorem handOver_eq (k i : Nat) (c : Causes) (first : Bool) (d : Device) : handOver k i c first d = { d with
    map := { d.map with spans := d.map.spans.set k (recorded d k i c first).spans }
    ring := if (recorded d k i c first).lost then
        { d.ring with slots := d.ring.slots.set k { slotAt d k with flags := { (slotAt d k).flags with lossy := true } } }
      else d.ring
    link := if (recorded d k i c first).lost then { d.link with causes := d.link.causes ||| 0x20 } else d.link
    reports := { d.reports with counters := { d.reports.counters with
      linesDamaged := if first then min (d.reports.counters.linesDamaged + 1) 4294967295 else d.reports.counters.linesDamaged,
      linesAbsorbed := min (d.reports.counters.linesAbsorbed + (recorded d k i c first).absorbed) 4294967295,
      linesLost := if (recorded d k i c first).lost && first then min (d.reports.counters.linesLost + 1) 4294967295
        else d.reports.counters.linesLost } } } := by
  have same : recordLine (spansOf (if first then bump .linesDamaged d else d) k)
      (0 < freeRecords (if first then bump .linesDamaged d else d).map) i c first = recorded d k i c first := by
    rw [recorded, ← free_eq]
    cases first <;> rfl
  simp only [handOver, same]
  generalize recorded d k i c first = r
  cases lost : r.lost
  · cases first <;> simp [setSpans_eq, bump, bumpBy, bumpCounter, countTo, Config.counterMax]
  · cases first <;>
      simp [setSpans_eq, loseLine, modifySlot_eq, raise, bump, bumpBy, bumpCounter, countTo, Config.counterMax, causeBit] <;> rfl

theorem FillWork.handOver (k i : Nat) (c : Causes) (first : Bool) (d : Device) : FillWork k d (handOver k i c first d) := by
  have lists : ∀ l : List Span, (d.map.spans.set k l).length = d.map.spans.length ∧
      ∀ t, t ≠ k → (d.map.spans.set k l).getD t [] = spansOf d t := fun l =>
    ⟨List.length_set, fun t ne => by simp [spansOf, List.getD, List.getElem?_set_ne ne.symm]⟩
  have slots : ∀ y : SlotEntry, ∀ t, t ≠ k → (d.ring.slots.set k y).getD t .empty = slotAt d t := fun y t ne => by
    simp [slotAt, List.getD, List.getElem?_set_ne ne.symm]
  rw [handOver_eq]
  cases (recorded d k i c first).lost with
  | false =>
    exact ⟨⟨rfl, rfl, rfl, rfl, rfl⟩, rfl, ⟨rfl, fun _ _ => rfl⟩, rfl, id, lists _, rfl, .inl rfl⟩
  | true =>
    have own : (d.ring.slots.set k { slotAt d k with flags := { (slotAt d k).flags with lossy := true } }).getD k .empty =
        { slotAt d k with flags := { (slotAt d k).flags with lossy := decide (k < d.ring.slots.length) } } := by
      by_cases hk : k < d.ring.slots.length
      · simp [List.getD, hk]
      · simp [List.getD, hk, slotAt_beyond d (Nat.le_of_not_lt hk), SlotEntry.empty, SlotFlags.clear]
    refine ⟨⟨rfl, rfl, rfl, rfl, rfl⟩, rfl, ⟨List.length_set, slots _⟩, ?_, fun was => ?_, lists _, rfl, .inr rfl⟩
    · exact own.trans (congrArg (fun y => { slotAt d k with flags := { (slotAt d k).flags with lossy := y } })
        (congrArg (fun z : SlotEntry => z.flags.lossy) own).symm)
    · refine (congrArg (fun z : SlotEntry => z.flags.lossy) own).trans ?_
      by_cases hk : k < d.ring.slots.length
      · simpa using hk
      · simp [slotAt_beyond d (Nat.le_of_not_lt hk), SlotEntry.empty, SlotFlags.clear] at was

theorem FillWork.refl (k : Nat) (d : Device) : FillWork k d d := .of_checker rfl

theorem FillWork.tearLine (k : Nat) (c : OpenLine) (d : Device) : FillWork k d (tearLine k c d) :=
  (FillWork.of_checker rfl).trans (.handOver ..)

theorem FillWork.missLine (k i : Nat) (d : Device) : FillWork k d (missLine k i d) :=
  (FillWork.of_checker rfl).trans (.handOver ..)

theorem FillWork.missLines (k : Nat) (l : List Nat) (d : Device) : FillWork k d (l.foldl (fun d i => Machine.missLine k i d) d) := by
  induction l generalizing d with
  | nil => exact .refl k d
  | cons i l ih => exact (FillWork.missLine k i d).trans (ih _)

theorem FillWork.closeTable (k : Nat) (d : Device) : FillWork k d (closeTable k d) := by
  unfold Machine.closeTable
  split
  · exact (FillWork.tearLine k _ d).trans (.missLines ..)
  · exact .missLines ..

/-- A line is lost exactly in a slot with no span, with no record free (R72). -/
theorem recordLine_lost_iff (l : List Span) (free : Bool) (i : Nat) (c : Causes) (first : Bool) :
    (recordLine l free i c first).lost = true ↔ l = [] ∧ free = false := by
  have kept : ∀ r : Recorded, r.lost = false → l ≠ [] ∨ free = true → (r.lost = true ↔ l = [] ∧ free = false) := fun r kept why => by
    rcases why with some_ | rfl <;> simp_all
  unfold recordLine
  split
  · next inside => exact kept _ rfl (.inl fun empty => by simp [empty] at inside)
  · next outside =>
    extract_lets above below
    have around : above = [] → below = [] → l = [] := fun noAbove noBelow => by
      refine List.eq_nil_iff_forall_not_mem.2 fun p hp => outside (List.any_eq_true.2 ⟨p, hp, ?_⟩)
      have low := List.filter_eq_nil_iff.1 noAbove p hp
      have high := List.filter_eq_nil_iff.1 noBelow p hp
      simp only [decide_eq_true_eq] at low high
      simp only [holdsLine, Bool.and_eq_true, decide_eq_true_eq]
      omega
    split
    · next touches =>
      refine kept _ rfl (.inl ?_)
      rintro rfl
      simp [above, below, recordTouching] at touches
    · split
      · next full => exact kept _ rfl (.inl fun empty => by simp [empty, Config.spanLimit] at full)
      · split
        · next has => exact kept _ rfl (.inr has)
        · next none_ =>
          have none_ : free = false := by simpa using none_
          unfold recordExtension
          split
          · next p last _ => exact kept _ rfl (.inl (by rintro rfl; simp [above] at last))
          · next p q rest last _ =>
            have some_ : l ≠ [] := by rintro rfl; simp [above] at last
            split
            · exact kept _ rfl (.inl some_)
            · exact kept _ rfl (.inl some_)
          · next q rest _ more => exact kept _ rfl (.inl (by rintro rfl; simp [below] at more))
          · next last more => simp [around (List.getLast?_eq_none_iff.1 last) more, none_]

/-! ### The beats of the open line (R49 to R54) -/

theorem fullEnables_iff {g : Geometry} (low : q < 2 * g.samples + 8) : fullEnables g q x = true ↔
    x.en0 = true ∧ x.en1 = true ∧ (2 * g.samples + 4 ≤ q ∨ x.en2 = true ∧ x.en3 = true) := by
  unfold fullEnables isTail
  by_cases tail : 2 * g.samples + 4 ≤ q
  · simp [tail, low]
  · simp [tail, and_assoc]

theorem illegalWords_eq (g : Geometry) (b : Beat) : illegalWords g b =
    ((packetWords g.order (beatBytes b)).filter fun y => decide (y < g.lo ∨ g.hi < y)).length := by
  rw [illegalWords, show isIllegal g = fun y => decide (y < g.lo ∨ g.hi < y) from funext fun y => by simp [isIllegal]]

theorem setStatus_eq (i : Nat) (y : LineStatus) (d : Device) :
    setStatus i y d = { d with checker := { d.checker with table := d.checker.table.set i y } } := by
  rw [setStatus, modifyAt_eq_set _ _ _ .unwritten]

theorem checkBeat_continues {full : fullEnables d.control.geometry q x = true} (context : d.checker.context = some c) (line : c.line = i)
    (next : c.next = q) : checkBeat k i q b x d = continueLine k q b c d := by
  simp only [checkBeat, context, line, next, full, and_self, if_true]

theorem checkBeat_tears (context : d.checker.context = some c) (line : c.line = i)
    (breaks : ¬ (c.next = q ∧ fullEnables d.control.geometry q x = true)) : checkBeat k i q b x d = tearLine k c d := by
  simp only [checkBeat, context, line, breaks, if_true, if_false]

theorem tearLine_context (k : Nat) (c : OpenLine) (d : Device) : (tearLine k c d).checker.context = none := by
  rw [tearLine, handOver_checker]
  rfl

theorem checkBeat_elsewhere (context : d.checker.context = some c) (line : c.line ≠ i) : checkBeat k i q b x d =
    checkBeat k i q b x (tearLine k c d) := by
  have emptied := tearLine_context k c d
  have kept : (tearLine k c d).control = d.control := by simp
  simp only [checkBeat, context, line, if_false, emptied, kept]

theorem checkBeat_none (context : d.checker.context = none) :
    checkBeat k i q b x d = startBeat k i q b (fullEnables d.control.geometry q x) d := by
  simp only [checkBeat, context]

theorem continueLine_sample (sample : q < 2 * d.control.geometry.samples) : continueLine k q b c d =
    setContext (some (takeSampleBeat d.control.geometry b c)) d := by
  simp [continueLine, isSample, sample]

theorem continueLine_head (low : 2 * d.control.geometry.samples ≤ q) (high : q < 2 * d.control.geometry.samples + 4) :
    continueLine k q b c d = setContext (some (takeHeadBeat d.control.geometry b c)) d := by
  simp [continueLine, isSample, isHead, low, high, low.not_gt]

theorem continueLine_tail (tail : 2 * d.control.geometry.samples + 4 ≤ q) : continueLine k q b c d = endLine k b c d := by
  have noSample : isSample d.control.geometry q = false := by simp [isSample]; omega
  have noHead : isHead d.control.geometry q = false := by simp [isHead]; omega
  simp only [continueLine, noSample, noHead, Bool.false_eq_true, if_false]

theorem tearLine_eq (k : Nat) (c : OpenLine) (d : Device) : tearLine k c d = handOver k c.line { Causes.nil with torn := true } true
    { d with checker := { context := none, table := d.checker.table.set c.line .torn } } := by
  rw [tearLine, setStatus_eq]
  rfl

/-! ### Line end (R51, R52) -/

theorem causes_any_iff (c : Causes) : c.any = true ↔ c ≠ Causes.nil := by
  obtain ⟨check, deck, range, number, torn, rewrite, missing⟩ := c
  simp only [Causes.any, Causes.nil, Bool.or_eq_true, ne_eq, Causes.mk.injEq, ← Bool.not_eq_true]
  tauto

/-- The part with line c judged and counted checked, and chroma if its flags say so. -/
def lineJudged (y : LineStatus) (w : StoredTrailer) (c : OpenLine) (d : Device) : Device :=
  { d with
    checker := { context := none, table := d.checker.table.set c.line y }
    reports := { d.reports with counters := { d.reports.counters with
      linesChecked := min (d.reports.counters.linesChecked + 1) 4294967295,
      chromaLines := if w.deck.getLsbD 2 then min (d.reports.counters.chromaLines + 1) 4294967295 else d.reports.counters.chromaLines } } }

theorem endLine_eq {w : StoredTrailer} (stored : c.stored = some w) (k : Nat) (b : Beat) (d : Device) : endLine k b c d =
    if lineCauses d b c = Causes.nil then lineJudged .passed w c d
    else handOver k c.line (lineCauses d b c) true (lineJudged .failed w c d) := by
  have judged : ∀ y, setStatus c.line y (setContext none (if (c.stored.elim false fun t => deckChroma t.deck) = true then
      bump .chromaLines (bump .linesChecked d) else bump .linesChecked d)) = lineJudged y w c d := fun y => by
    rw [setStatus_eq, stored]
    by_cases chroma : w.deck.getLsbD 2 = true
    · simp only [Option.elim_some, deckChroma, chroma, if_true, lineJudged]
      rfl
    · simp only [Option.elim_some, deckChroma, chroma, lineJudged]
      rfl
  simp only [endLine, judged]
  by_cases nil : lineCauses d b c = Causes.nil
  · rw [if_pos nil, if_neg (by rw [causes_any_iff]; exact fun some_ => some_ nil)]
  · rw [if_neg nil, if_pos ((causes_any_iff _).2 nil)]

end

end Sys2Proof.Machine

namespace Sys2Proof.Filling

open Sys2Proof.Machine

/-- Settles O52: the beats of the open line, a line begun or judged, its hand-over, and the whole of the beat. -/
theorem lineBeatsAreJudged : Obligations.LineBeatsAreJudged := by
  refine ⟨fun b e s u k i q d d' at_ later slot open_ hd hd' => ?_, fun s i q b e d c whole context hwhole low => ?_,
    fun s i q b e d context => ?_, fun s i c first d => ⟨_, rfl, handOver_eq s i c first d⟩,
    fun s i q b e d c w context line next tail stored en0 en1 inside lists => ?_⟩
  · subst hd hd'
    rw [exec_writesLine at_, runningBeat, if_neg (by rw [begins_eq_false later]; simp), if_pos ⟨slot, open_⟩, fillBeat]
    have judged : isTail s.control.geometry q = decide (2 * s.control.geometry.samples + 4 ≤ q) := by
      simp [isTail, nameAddress_offset at_.place]
    have geometry : (withBeatAccepted s u b e).control.geometry = s.control.geometry := rfl
    simp only [geometry, judged, decide_eq_true_eq]
  · have full : fullEnables d.control.geometry q e = true ↔ whole := (fullEnables_iff low).trans hwhole.symm
    refine ⟨fun line next enabled sample => ?_, fun line next enabled head more => ?_, fun torn htorn => ⟨fun line breaks => ?_, fun line => ?_⟩⟩
    · rw [checkBeat_continues (full := full.2 enabled) context line next, continueLine_sample sample, takeSampleBeat, illegalWords_eq, next]
      rfl
    · rw [checkBeat_continues (full := full.2 enabled) context line next, continueLine_head head more, takeHeadBeat, next]
      rfl
    · rw [htorn, ← tearLine_eq, checkBeat_tears context line (by rwa [full])]
    · rw [htorn, ← tearLine_eq]
      exact ⟨tearLine_context s c d, checkBeat_elsewhere context line⟩
  · rw [checkBeat_none context]
    refine ⟨fun unwritten first full => ⟨_, rfl, ?_⟩, fun unwritten breaks => ?_, fun judged => ?_, fun spoiled => ?_⟩
    · subst first
      have enabled : fullEnables d.control.geometry 0 e = true := by simp [full, fullEnables]
      simp only [startBeat, unwritten, enabled, and_self, if_true, setStatus_eq, takeSampleBeat, illegalWords_eq, Nat.zero_add]
      rfl
    · have whole : ¬ (q = 0 ∧ fullEnables d.control.geometry q e = true) := fun ⟨first, enabled⟩ => breaks ⟨first, by
        obtain ⟨e0, e1, e2, e3⟩ := e
        simpa [first, fullEnables, isTail, and_assoc] using enabled⟩
      simp only [startBeat, unwritten, whole, if_false, setStatus_eq]
      rfl
    · rcases judged with judged | judged
      all_goals
        simp only [startBeat, judged, setStatus_eq]
        rfl
    · rcases spoiled with spoiled | spoiled <;> simp only [startBeat, spoiled]
  · have ends : checkBeat s i q b e d = endLine s b c d := by
      rw [checkBeat_continues (full := (fullEnables_iff (by omega)).2 ⟨en0, en1, .inl tail.ge⟩) context line next,
        continueLine_tail tail.ge]
    refine ⟨_, lineCauses d b c, rfl, bne_iff_ne, ?_, by simp [lineCauses], ?_, rfl, rfl, rfl, ?_⟩
    · simp [lineCauses, stored, deckDamage]
    · simp [lineCauses, stored, line]
    rw [ends, endLine_eq stored]
    by_cases nil : lineCauses d b c = Causes.nil
    · rw [if_pos nil]
      exact ⟨rfl, rfl, rfl, fun _ => ⟨rfl, by rw [← line]; rfl, rfl⟩, fun some_ => absurd nil some_⟩
    · rw [if_neg nil]
      have same : recorded (lineJudged .failed w c d) s c.line (lineCauses d b c) true = recorded d s i (lineCauses d b c) true := by
        rw [line]
        rfl
      rw [handOver_eq, same]
      refine ⟨rfl, rfl, rfl, fun is => absurd is nil, fun _ => ⟨by rw [← line]; rfl, rfl, rfl, rfl, fun gone => ?_, fun kept => ?_⟩⟩
      · have lost : (recorded d s i (lineCauses d b c) true).lost = true := by
          simpa [recorded, recordLine_lost_iff] using gone
        simp only [lost, if_true]
        exact ⟨rfl, rfl, rfl⟩
      · have lost : (recorded d s i (lineCauses d b c) true).lost = false := by
          rw [Bool.eq_false_iff, recorded, Ne, recordLine_lost_iff]
          simpa using kept
        simp only [lost, Bool.false_eq_true, if_false]
        exact ⟨rfl, rfl, rfl⟩

end Sys2Proof.Filling
end

section
/-! PROOFS. Stray writes, lock losses and the close of a fill (sections 2.4, 2.5, 3.7 and 4.7). -/

namespace Sys2Proof.Machine

section
variable {a d e : Device} {s : State} {u : BurnerTransfer} {k i q n f : Nat} {b : Beat} {x : Enables} {c : OpenLine} {lost : Bool}

/-! ### A marking (R33, R75, R118) -/

theorem markStale_marks (state : (slotAt d k).state ≠ .empty) (fresh : (slotAt d k).flags.stale = false) :
    markStale k d = staleMarked k (abortJobOf k d) := by
  have spans : ∀ l : List SlotEntry, spansOf (leaveOrder k (abortJobOf k { d with ring := { d.ring with slots := l } })) k = spansOf d k :=
    fun l => by simp [spansOf]
  have aborts : ∀ r, abortJobOf k { d with ring := r } = { abortJobOf k d with ring := r } := fun r => by
    unfold abortJobOf abortJob
    cases d.engine.job with
    | none => rfl
    | some j => dsimp only; split <;> rfl
  have own : slotAt (abortJobOf k d) k = slotAt d k := by simp [slotAt]
  have lists : spansOf (abortJobOf k d) k = spansOf d k := by simp [spansOf]
  simp only [markStale]
  rw [if_neg (by simp [state, fresh])]
  rw [modifySlot_eq, aborts, abandonSpans, setSpans_eq]
  simp only [staleMarked, own, lists, leaveOrder, raise, bump, bumpBy, bumpCounter, countTo, Config.counterMax, causeBit]
  simp [spansOf]

/-! ### The lines of a fill recorded (R55, R57, R65 to R73) -/

theorem Covers.trans {p q r : Span} (one : Covers q p) (two : Covers r q) : Covers r p := by
  obtain ⟨first, last, causes⟩ := one
  obtain ⟨first', last', causes'⟩ := two
  exact ⟨first'.trans first, last.trans last', Causes.union_trans causes causes'⟩

/-- A span that takes in one with some causes has them. -/
theorem Covers.causes {p q : Span} {y : Causes} (cov : Covers q p) (has : p.causes.union y = p.causes) : q.causes.union y = q.causes := by
  obtain ⟨-, -, causes⟩ := cov
  rw [← causes, ← has]
  simp [Causes.union, Bool.or_comm, Bool.or_left_comm]

/-- The spans of slot k in d are in order, and every one of them in c is taken in by one in d. -/
def SpansKept (k : Nat) (c d : Device) : Prop :=
  SpanListWf (spansOf d k) ∧ ∀ p ∈ spansOf c k, ∃ q ∈ spansOf d k, Covers q p

theorem SpansKept.trans {c : Device} (one : SpansKept k c d) (two : SpansKept k d e) : SpansKept k c e :=
  ⟨two.1, fun p hp => by
    obtain ⟨q, hq, cov⟩ := one.2 p hp
    obtain ⟨r, hr, cov'⟩ := two.2 q hq
    exact ⟨r, hr, cov.trans cov'⟩⟩

theorem SpansKept.refl (wf : SpanListWf (spansOf d k)) : SpansKept k d d := ⟨wf, fun p hp => ⟨p, hp, covers_refl p⟩⟩

/-- A line in a span with its causes stays in one. -/
theorem SpansKept.holds (kept : SpansKept k d e) {y : Causes} (was : ∃ p ∈ spansOf d k, holdsLine i p = true ∧ p.causes.union y = p.causes) :
    ∃ p ∈ spansOf e k, holdsLine i p = true ∧ p.causes.union y = p.causes := by
  obtain ⟨p, hp, inside, causes⟩ := was
  obtain ⟨q, hq, cov⟩ := kept.2 p hp
  exact ⟨q, hq, cov.holdsLine inside, cov.causes causes⟩

/-- A hand-over that leaves the slot not LOSSY has recorded the line. -/
theorem handOver_records (inside : k < d.ring.slots.length) (lists : k < d.map.spans.length) (wf : SpanListWf (spansOf d k)) (i : Nat)
    (y : Causes) (first : Bool) (sound : (slotAt (handOver k i y first d) k).flags.lossy = false) :
    SpansKept k d (handOver k i y first d) ∧
      ∃ p ∈ spansOf (handOver k i y first d) k, holdsLine i p = true ∧ p.causes.union y = p.causes := by
  have spans : spansOf (handOver k i y first d) k = (recorded d k i y first).spans := by
    rw [handOver_eq]
    simp [spansOf, List.getD, lists]
  have kept : (recorded d k i y first).lost = false := by
    cases lost : (recorded d k i y first).lost with
    | false => rfl
    | true =>
      rw [handOver_eq, lost] at sound
      simp [slotAt, List.getD, inside] at sound
  have step := recordLine_recording wf (decide ((d.map.spans.map List.length).sum < 1024)) i y first
  rw [SpansKept, spans]
  exact ⟨⟨step.spanListWf wf, step.covers wf⟩, step.holds wf kept⟩

/-- The UNWRITTEN lines of a fill are each recorded as MISSING, where the slot is then not LOSSY. -/
theorem missLines_record (l : List Nat) (inside : k < d.ring.slots.length) (lists : k < d.map.spans.length)
    (wf : SpanListWf (spansOf d k)) (sound : (slotAt (l.foldl (fun d i => missLine k i d) d) k).flags.lossy = false) :
    SpansKept k d (l.foldl (fun d i => missLine k i d) d) ∧
      ∀ i ∈ l, ∃ p ∈ spansOf (l.foldl (fun d i => missLine k i d) d) k, holdsLine i p = true ∧ p.causes.union onlyMissing = p.causes := by
  induction l generalizing d with
  | nil => exact ⟨.refl wf, by simp⟩
  | cons i l ih =>
    have work := FillWork.missLine k i d
    have rest := FillWork.missLines k l (missLine k i d)
    have now : (slotAt (missLine k i d) k).flags.lossy = false := by
      rw [Bool.eq_false_iff]
      exact fun was => by simp [rest.lossy was] at sound
    obtain ⟨kept, held⟩ := handOver_records (d := setStatus i .missing d) inside lists wf i onlyMissing true now
    obtain ⟨more, others⟩ := ih (d := missLine k i d) (by rw [work.slots.1]; exact inside) (by rw [work.spans.1]; exact lists) kept.1 sound
    refine ⟨SpansKept.trans kept more, fun n hn => ?_⟩
    rcases List.mem_cons.1 hn with rfl | hn
    · exact more.holds held
    · exact others n hn

theorem missLines_checker (l : List Nat) (d : Device) : (l.foldl (fun d i => missLine k i d) d).checker =
    { d.checker with table := l.foldl (fun t i => t.set i .missing) d.checker.table } := by
  induction l generalizing d with
  | nil => rfl
  | cons i l ih =>
    rw [List.foldl_cons, ih, missLine, handOver_checker, setStatus_eq]
    rfl

theorem missLines_damaged (l : List Nat) (d : Device) (most : d.reports.counters.linesDamaged ≤ 4294967295) :
    (l.foldl (fun d i => missLine k i d) d).reports.counters.linesDamaged = min (d.reports.counters.linesDamaged + l.length) 4294967295 := by
  induction l generalizing d with
  | nil => simp [most]
  | cons i l ih =>
    have one : (missLine k i d).reports.counters.linesDamaged = min (d.reports.counters.linesDamaged + 1) 4294967295 := by
      rw [missLine, handOver_eq]
      rfl
    rw [List.foldl_cons, ih _ (by omega), one, List.length_cons]
    omega

theorem foldl_set_getElem? {α : Type} (y : α) (l : List Nat) (t : List α) (n : Nat) :
    (l.foldl (fun t i => t.set i y) t)[n]? = if n ∈ l then t[n]?.map fun _ => y else t[n]? := by
  induction l generalizing t with
  | nil => simp
  | cons i l ih =>
    rw [List.foldl_cons, ih, List.getElem?_set]
    by_cases here : i = n
    · subst here
      by_cases inside : i < t.length <;> by_cases more : i ∈ l <;> simp [inside, more]
    · simp [here, Ne.symm here]

/-- Every UNWRITTEN line of a table made MISSING. -/
theorem missingTable (t : List LineStatus) : (placesOf (fun y => y == LineStatus.unwritten) 0 t).foldl (fun t i => t.set i .missing) t =
    t.map fun y => if y = .unwritten then .missing else y := by
  refine List.ext_getElem? fun n => ?_
  rw [foldl_set_getElem?, List.getElem?_map]
  cases here : t[n]? with
  | none => simp
  | some y =>
    by_cases unwritten : y = .unwritten
    · rw [if_pos (mem_placesOf.2 ⟨y, Nat.zero_le n, here, by simpa using unwritten⟩)]
      simp [unwritten]
    · rw [if_neg fun member => ?_]
      · simp [unwritten]
      · obtain ⟨z, -, hz, hu⟩ := mem_placesOf.1 member
        rw [Nat.sub_zero, here] at hz
        exact unwritten (by simpa [Option.some.inj hz] using hu)

theorem placesOf_length {α : Type} (p : α → Bool) (n : Nat) (l : List α) : (placesOf p n l).length = (l.filter p).length := by
  induction l generalizing n with
  | nil => rfl
  | cons y l ih => by_cases hy : p y = true <;> simp [placesOf, hy, ih]

theorem closedState_eq (y : SlotState) : closedState y = if y = .filling then .filled else y := by
  cases y <;> rfl

/-! ### The close of a fill (R26, R57, R74) -/

/-- The part with the open line, if there is one, made TORN and handed over. -/
def tornOpen (k : Nat) (d : Device) : Device :=
  match d.checker.context with
  | some c => tearLine k c d
  | none => d

theorem closeTable_eq (k : Nat) (d : Device) : closeTable k d =
    (placesOf (fun y => y == LineStatus.unwritten) 0 (tornOpen k d).checker.table).foldl (fun d i => missLine k i d) (tornOpen k d) := rfl

theorem tornOpen_none (context : d.checker.context = none) (k : Nat) : tornOpen k d = d := by simp only [tornOpen, context]

theorem tornOpen_some (context : d.checker.context = some c) (k : Nat) : tornOpen k d = tearLine k c d := by simp only [tornOpen, context]

theorem FillWork.tornOpen (k : Nat) (d : Device) : FillWork k d (tornOpen k d) := by
  unfold Machine.tornOpen
  split
  · exact .tearLine ..
  · exact .refl k d

theorem tearLine_checker (k : Nat) (c : OpenLine) (d : Device) :
    (tearLine k c d).checker = { context := none, table := d.checker.table.set c.line .torn } := by
  rw [tearLine_eq, handOver_checker]

theorem tornOpen_checker (k : Nat) (d : Device) : (tornOpen k d).checker =
    { context := none, table := d.checker.context.elim d.checker.table fun c => d.checker.table.set c.line .torn } := by
  cases context : d.checker.context with
  | none =>
    rw [tornOpen_none context, Option.elim_none, ← context]
  | some c => rw [tornOpen_some context, tearLine_checker]; rfl

theorem closeTable_checker (k : Nat) (d : Device) : (closeTable k d).checker = { context := none, table :=
    (d.checker.context.elim d.checker.table fun c => d.checker.table.set c.line .torn).map fun y =>
      if y = .unwritten then .missing else y } := by
  rw [closeTable_eq, missLines_checker, missingTable, tornOpen_checker]

/-- The open line and each UNWRITTEN line are recorded, where the slot is then not LOSSY. -/
theorem closeTable_records (inside : k < d.ring.slots.length) (lists : k < d.map.spans.length) (wf : SpanListWf (spansOf d k))
    (sound : (slotAt (closeTable k d) k).flags.lossy = false) : SpansKept k d (closeTable k d) ∧
      (∀ c, d.checker.context = some c → ∃ p ∈ spansOf (closeTable k d) k, holdsLine c.line p = true ∧ p.causes.union onlyTorn = p.causes) ∧
      ∀ i, (tornOpen k d).checker.table[i]? = some .unwritten →
        ∃ p ∈ spansOf (closeTable k d) k, holdsLine i p = true ∧ p.causes.union onlyMissing = p.causes := by
  have torn := FillWork.tornOpen k d
  rw [closeTable_eq] at sound ⊢
  have now : (slotAt (tornOpen k d) k).flags.lossy = false := by
    rw [Bool.eq_false_iff]
    exact fun was => by simp [(FillWork.missLines k _ (tornOpen k d)).lossy was] at sound
  have first : SpansKept k d (tornOpen k d) ∧ ∀ c, d.checker.context = some c →
      ∃ p ∈ spansOf (tornOpen k d) k, holdsLine c.line p = true ∧ p.causes.union onlyTorn = p.causes := by
    cases context : d.checker.context with
    | none =>
      rw [tornOpen_none context]
      exact ⟨.refl wf, fun c hc => by simp at hc⟩
    | some c =>
      rw [tornOpen_some context] at now ⊢
      obtain ⟨kept, held⟩ := handOver_records (d := setContext none (setStatus c.line .torn d)) inside lists wf c.line onlyTorn true now
      exact ⟨kept, fun y hy => by obtain rfl := Option.some.inj hy; exact held⟩
  obtain ⟨kept, held⟩ := missLines_record (placesOf (fun y => y == LineStatus.unwritten) 0 (tornOpen k d).checker.table)
    (by rw [torn.slots.1]; exact inside) (by rw [torn.spans.1]; exact lists) first.1.1 sound
  refine ⟨first.1.trans kept, fun c hc => kept.holds (first.2 c hc), fun i unwritten => held i ?_⟩
  exact mem_placesOf.2 ⟨_, Nat.zero_le i, unwritten, rfl⟩

theorem closeTable_damaged (k : Nat) (d : Device) (most : d.reports.counters.linesDamaged ≤ 4294967295) :
    (closeTable k d).reports.counters.linesDamaged = min (d.reports.counters.linesDamaged + (if d.checker.context = none then 0 else 1) +
      ((tornOpen k d).checker.table.filter fun y => decide (y = .unwritten)).length) 4294967295 := by
  have torn : (tornOpen k d).reports.counters.linesDamaged =
      min (d.reports.counters.linesDamaged + if d.checker.context = none then 0 else 1) 4294967295 := by
    cases context : d.checker.context with
    | none => simp [tornOpen_none context, most]
    | some c =>
      rw [tornOpen_some context, tearLine_eq, handOver_eq]
      rfl
  rw [closeTable_eq, missLines_damaged _ _ (by omega), placesOf_length, torn]
  simp only [beq_eq_decide]
  omega

/-- What the close of a fill does after the checker's part: the slot's state, its spans QUEUED, the frame counted. -/
def fillClosed (k : Nat) (lost : Bool) (d : Device) : Device :=
  { d with
    ring := { d.ring with
      slots := d.ring.slots.set k { slotAt d k with
        state := closedState (slotAt d k).state, flags := { (slotAt d k).flags with seek := (slotAt d k).flags.seek || lost } },
      fillOpen := false }
    map := { d.map with spans := d.map.spans.set k ((spansOf d k).map fun p => { p with state := .queued }) }
    engine := { d.engine with order := d.engine.order ++ (spansOf d k).map fun p => { slot := k, first := p.first } }
    reports := { d.reports with counters := { d.reports.counters with
      framesFilled := min (d.reports.counters.framesFilled + 1) 4294967295 } } }

theorem modifyAt_modifyAt {α : Type} (f g : α → α) (k : Nat) (l : List α) : modifyAt g k (modifyAt f k l) = modifyAt (fun y => g (f y)) k l := by
  induction l generalizing k with
  | nil => cases k <;> rfl
  | cons y l ih =>
    cases k with
    | zero => rfl
    | succ k => simp [modifyAt, ih]

theorem closeFill_eq (k : Nat) (lost : Bool) (d : Device) : closeFill k lost d = fillClosed k lost (closeTable k d) := by
  have slots : modifySlot k (fun e => { e with state := closedState e.state })
      (if lost then modifySlot k (fun e => { e with flags := { e.flags with seek := true } }) (closeTable k d) else closeTable k d) =
      modifySlot k (fun e => { e with state := closedState e.state, flags := { e.flags with seek := e.flags.seek || lost } })
        (closeTable k d) := by
    cases lost with
    | false => simp
    | true => simp [modifySlot, modifyAt_modifyAt]
  have order : ∀ c : Device, (spansOf (setSpans k ((spansOf c k).map fun p => { p with state := .queued }) c) k).map
      (fun p => ({ slot := k, first := p.first } : SpanRef)) = (spansOf c k).map fun p => { slot := k, first := p.first } := fun c => by
    by_cases lists : k < c.map.spans.length
    · rw [spansOf_setSpans_self _ _ lists, List.map_map]
      rfl
    · rw [setSpans_eq, List.set_eq_of_length_le (Nat.le_of_not_lt lists)]
  simp only [closeFill, slots, queueSpans, order]
  rw [setSpans_eq, modifySlot_eq]
  rfl

theorem slotAt_closeFill_ne (ne : k ≠ f) (lost : Bool) (d : Device) : slotAt (closeFill f lost d) k = slotAt d k := by
  rw [closeFill_eq, ← (FillWork.closeTable f d).slots.2 k ne]
  simp [slotAt, fillClosed, List.getD, List.getElem?_set_ne ne.symm]

theorem closeFill_job (f : Nat) (lost : Bool) (d : Device) : (closeFill f lost d).engine.job = d.engine.job := by
  rw [closeFill_eq]
  exact (congrArg Engine.job (FillWork.closeTable f d).same.2.2.2.1 : (closeTable f d).engine.job = d.engine.job)

theorem closeOpenFill_shut (shut : d.ring.fillOpen = false) (lost : Bool) : closeOpenFill lost d = d := by
  simp only [closeOpenFill, shut]
  split <;> rfl

theorem closeOpenFill_open (slot : d.ring.fillSlot = some f) (open_ : d.ring.fillOpen = true) (lost : Bool) :
    closeOpenFill lost d = closeFill f lost d := by
  simp only [closeOpenFill, slot, open_, if_true]

/-! ### Stray beats (R25, R32, R33) -/

/-- What a stray beat in slot k makes of it, by its state and by whose the job is (R33, R75, R118). -/
def Marks (k : Nat) (d d' : Device) : Prop :=
  ((slotAt d k).state = .empty ∨ (slotAt d k).flags.stale = true) ∧ d' = d ∨
    ((slotAt d k).state ≠ .empty ∧ (slotAt d k).flags.stale = false) ∧
      ((∀ j, d.engine.job = some j → j.slot ≠ k) ∧ d' = staleMarked k d ∨
        (∃ j, d.engine.job = some j ∧ j.slot = k) ∧ d' = staleMarked k (jobAborted d))

theorem Marks.markStale (h : Marks k d e) : markStale k d = e := by
  rcases h with ⟨spoiled, rfl⟩ | ⟨⟨state, fresh⟩, ⟨other, rfl⟩ | ⟨⟨j, job, rfl⟩, rfl⟩⟩
  · exact markStale_spoiled spoiled
  · rw [markStale_marks state fresh, abortJobOf_other other]
  · rw [markStale_marks state fresh, abortJobOf_own job]

theorem runningBeat_stray_locked (later : ¬ (n = 0 ∧ i = 0 ∧ q = 0)) (stray : ¬ (d.ring.fillSlot = some k ∧ d.ring.fillOpen = true))
    (locked : d.ring.lock = some .locked) : runningBeat (n == 0) k i q b x d = lockLost (markStale k (closeOpenFill true d)) := by
  rw [runningBeat, if_neg (by rw [begins_eq_false later]; simp), if_neg stray, if_pos locked]
  rfl

theorem runningBeat_stray_seeking (later : ¬ (n = 0 ∧ i = 0 ∧ q = 0)) (shut : d.ring.fillOpen = false)
    (seeking : d.ring.lock = some .seeking) : runningBeat (n == 0) k i q b x d = markStale k d := by
  rw [runningBeat, if_neg (by rw [begins_eq_false later]; simp), if_neg (by simp [shut]), if_neg (by simp [seeking])]

theorem exec_stray_locked (at_ : WritesLine s u k i q) (later : ¬ (u.next = 0 ∧ i = 0 ∧ q = 0))
    (closes : s.ring.lock = some .locked ∧ s.ring.fillOpen = false ∧ d = withBeatAccepted s u b x ∨
      ∃ f, s.ring.lock = some .locked ∧ s.ring.fillOpen = true ∧ s.ring.fillSlot = some f ∧ f ≠ k ∧
        d = closeFill f true (withBeatAccepted s u b x)) (marks : Marks k d e) :
    exec (.writeBeatAccepted b x) s = .next { s with toDevice := wakeEngine (lockLost e) } := by
  rw [exec_writesLine at_]
  rcases closes with ⟨locked, shut, rfl⟩ | ⟨f, locked, open_, slot, ne, rfl⟩
  · rw [runningBeat_stray_locked (d := withBeatAccepted s u b x) later (fun ⟨_, h⟩ => by simp [show (withBeatAccepted s u b x).ring = s.ring from rfl, shut] at h) locked,
      closeOpenFill_shut (d := withBeatAccepted s u b x) shut, marks.markStale]
  · rw [runningBeat_stray_locked (d := withBeatAccepted s u b x) later (fun ⟨h, _⟩ => ne (Option.some.inj (slot.symm.trans h))) locked,
      closeOpenFill_open (d := withBeatAccepted s u b x) slot open_, marks.markStale]

end

end Sys2Proof.Machine

namespace Sys2Proof.Filling

open Sys2Proof.Machine

/-- Settles O53: the open line torn, the UNWRITTEN lines missed, then the slot, its spans and the order. -/
theorem fillsCloseAndQueueTheirSpans : Obligations.FillsCloseAndQueueTheirSpans := by
  intro f lost d inside
  have work := FillWork.closeTable f d
  obtain ⟨control, port, arbiter, engine, delivery⟩ := work.same
  have own : slotAt (fillClosed f lost (closeTable f d)) f = { slotAt (closeTable f d) f with
      state := closedState (slotAt (closeTable f d) f).state
      flags := { (slotAt (closeTable f d) f).flags with seek := (slotAt (closeTable f d) f).flags.seek || lost } } := by
    simp [slotAt, fillClosed, List.getD, work.slots.1, inside]
  have lists : spansOf (fillClosed f lost (closeTable f d)) f = (spansOf (closeTable f d) f).map fun p => { p with state := .queued } := by
    by_cases hf : f < (closeTable f d).map.spans.length
    · simp [spansOf, fillClosed, List.getD, hf]
    · rw [spansOf_beyond hf, spansOf_beyond (by simpa [fillClosed] using hf)]
      rfl
  refine ⟨_, closeFill_eq f lost d, ?_, ?_, ?_, fun s ne => ?_, rfl, ?_, fun none => ?_, fun c some_ => ?_, fun wf room sound => ?_,
    fun table most htable => ?_, fun p hp => ?_, fun s ne => ?_, ?_, ?_, control, port, arbiter, delivery⟩
  · rw [own, work.entry]
    exact closedState_eq _
  · rw [own, work.entry]
  · rw [own, work.entry]
  · rw [← work.slots.2 s ne]
    simp [slotAt, fillClosed, List.getD, List.getElem?_set_ne ne.symm]
  · show (closeTable f d).ring.fillSlot = _
    rw [work.ring]
  · show (closeTable f d).checker = _
    rw [closeTable_checker, none]
    rfl
  · show (closeTable f d).checker = _
    rw [closeTable_checker, some_]
    rfl
  · rw [own] at sound
    obtain ⟨kept, torn, missing⟩ := closeTable_records inside room wf sound
    have queued : ∀ {i : Nat} {test : Span → Prop}, (∀ p, test p → test { p with state := .queued }) →
        (∃ p ∈ spansOf (closeTable f d) f, holdsLine i p = true ∧ test p) →
        ∃ p ∈ spansOf (fillClosed f lost (closeTable f d)) f, holdsLine i p = true ∧ test p := fun keeps ⟨p, hp, holds, has⟩ => by
      rw [lists]
      exact ⟨_, List.mem_map_of_mem hp, holds, keeps p has⟩
    refine ⟨fun c hc => ?_, fun i unwritten apart => ?_, fun i held => ?_⟩
    · obtain ⟨p, hp, holds, has⟩ := torn c hc
      refine queued (test := fun p => p.causes.torn = true) (fun _ => id) ⟨p, hp, holds, ?_⟩
      rw [← has]
      simp [Causes.union, onlyTorn]
    · obtain ⟨p, hp, holds, has⟩ := missing i (by
        rw [tornOpen_checker]
        cases hc : d.checker.context with
        | none => exact unwritten
        | some c =>
          rw [Option.elim_some, List.getElem?_set_ne (apart c hc)]
          exact unwritten)
      refine queued (test := fun p => p.causes.missing = true) (fun _ => id) ⟨p, hp, holds, ?_⟩
      rw [← has]
      simp [Causes.union, onlyMissing]
    · obtain ⟨p, hp, holds⟩ := List.any_eq_true.1 held
      obtain ⟨q, hq, cov⟩ := kept.2 p hp
      obtain ⟨r, hr, holds', -⟩ := queued (test := fun _ => True) (fun _ => id) ⟨q, hq, cov.holdsLine holds, trivial⟩
      exact List.any_eq_true.2 ⟨r, hr, holds'⟩
  · show (closeTable f d).reports.counters.linesDamaged = _
    rw [closeTable_damaged f d most, tornOpen_checker, htable]
  · rw [lists] at hp
    obtain ⟨q, -, rfl⟩ := List.mem_map.1 hp
    rfl
  · rw [← work.spans.2 s ne]
    simp [spansOf, fillClosed, List.getD, List.getElem?_set_ne ne.symm]
  · rw [lists, List.map_map, ← engine]
    rfl
  · show min ((closeTable f d).reports.counters.framesFilled + 1) 4294967295 = _
    rw [work.reports]

/-- Settles O39: a lock loss or a marking alone, and what the marking takes with it. -/
theorem strayWritesSpoilTheirSlot : Obligations.StrayWritesSpoilTheirSlot := by
  refine ⟨fun b e s u k i q ht write mode more running locked shut place later idle => ?_,
    fun b e s u k i q d d' at_ later closes marks => exec_stray_locked at_ later closes ?_,
    fun b e s u k i q d d' at_ later seeking shut hd marks => ?_⟩
  · have at_ : WritesLine s u k i q := ⟨⟨ht, write, mode, more⟩, running, place⟩
    have rests : ∀ d : Device, d.engine.job = s.engine.job → (s.engine.order = [] → d.engine.order = []) →
        wakeEngine (lockLost d) = lockLost d := fun d job order => by
      rcases idle with ⟨-, none⟩ | ⟨j, hj, -⟩
      · exact wakeEngine_nil (d := lockLost d) (order none)
      · exact wakeEngine_busy (d := lockLost d) (job.trans hj)
    have other : ∀ j, s.engine.job = some j → j.slot ≠ k := fun j hj => by
      rcases idle with ⟨none, -⟩ | ⟨y, hy, ne⟩
      · simp [none] at hj
      · rwa [Option.some.inj (hj.symm.trans hy)]
    by_cases spoiled : (slotAt s.toDevice k).state = .empty ∨ (slotAt s.toDevice k).flags.stale = true
    · have goes := exec_stray_locked (b := b) (x := e) at_ later (.inl ⟨locked, shut, rfl⟩) (.inl ⟨spoiled, rfl⟩)
      rw [rests (withBeatAccepted s u b e) rfl id] at goes
      refine ⟨_, goes, rfl, rfl, rfl, rfl, rfl, rfl, rfl, fun state fresh => ?_, fun _ => ⟨rfl, rfl, rfl, rfl⟩⟩
      rcases spoiled with empty | stale
      · exact absurd empty state
      · simp [stale] at fresh
    · have sound : (slotAt s.toDevice k).state ≠ .empty ∧ (slotAt s.toDevice k).flags.stale = false := by simpa using spoiled
      have goes := exec_stray_locked (b := b) (x := e) at_ later (.inl ⟨locked, shut, rfl⟩) (.inr ⟨sound, .inl ⟨other, rfl⟩⟩)
      rw [rests (staleMarked k (withBeatAccepted s u b e)) rfl fun none => by simp [staleMarked, withBeatAccepted, none]] at goes
      refine ⟨_, goes, rfl, rfl, rfl, rfl, rfl, rfl, rfl, fun _ _ => ⟨rfl, rfl, rfl, ?_⟩, fun again => absurd again spoiled⟩
      show s.link.causes ||| 0x100 ||| 4 = _
      rw [BitVec.or_assoc]
      rfl
  · have kept : slotAt d k = slotAt s.toDevice k ∧ d.engine.job = s.engine.job := by
      rcases closes with ⟨-, -, rfl⟩ | ⟨f, -, -, -, ne, rfl⟩
      · exact ⟨rfl, rfl⟩
      · exact ⟨slotAt_closeFill_ne ne.symm true _, closeFill_job ..⟩
    rw [Marks, kept.1, kept.2]
    exact marks
  · subst hd
    rw [exec_writesLine at_, runningBeat_stray_seeking (d := withBeatAccepted s u b e) later shut seeking, Marks.markStale (d := withBeatAccepted s u b e) (e := d') marks]

end Sys2Proof.Filling
end

section
/-! PROOFS. A slot begun by a write's first beat: relock, advance and jump, and what becomes of the frame it held (sections 2.4, 2.5, 4.7,
6.6, 7.6 and 8.2). -/

namespace Sys2Proof.Machine

section
variable {c d e : Device} {s : State} {u : BurnerTransfer} {k f n : Nat} {b : Beat} {x : Enables} {lost : Bool} {r : DrainRecord}

/-! ### What comes before the begin of slot k (R29, R30, R34) -/

/-- The part as slot k is begun in it: by a relock as it is, by an advance with the open fill closed, by a jump with a lock loss counted
and the open fill of another slot closed. -/
def madeReady (k : Nat) (d : Device) : Device :=
  if d.ring.lock = some .seeking then d
  else if d.ring.fillSlot.map (slotAfter d.control.geometry) = some k then closeOpenFill false d
  else if d.ring.fillSlot = some k then loseLock d
  else closeOpenFill true (loseLock d)

/-- What is left alone before slot k is begun: c is d with other slots' fills closed and lock losses counted. -/
structure Ready (k : Nat) (d c : Device) : Prop where
  same : c.control = d.control ∧ c.port = d.port ∧ c.arbiter = d.arbiter ∧ c.delivery = d.delivery
  engine : c.engine.job = d.engine.job ∧ c.engine.claiming = d.engine.claiming
  slot : slotAt c k = slotAt d k ∧ c.ring.slots.length = d.ring.slots.length
  spans : spansOf c k = spansOf d k ∧ c.map.spans.length = d.map.spans.length
  ring : c.ring.lock = d.ring.lock ∧ c.ring.draining = d.ring.draining ∧ c.ring.nextFrame = d.ring.nextFrame ∧
    c.ring.drainFrame = d.ring.drainFrame
  reports : c.reports = { d.reports with counters := c.reports.counters }
  overwritten : c.reports.counters.framesOverwritten = d.reports.counters.framesOverwritten

theorem Ready.refl (k : Nat) (d : Device) : Ready k d d :=
  ⟨⟨rfl, rfl, rfl, rfl⟩, ⟨rfl, rfl⟩, ⟨rfl, rfl⟩, ⟨rfl, rfl⟩, ⟨rfl, rfl, rfl, rfl⟩, rfl, rfl⟩

theorem Ready.loseLock (k : Nat) (d : Device) : Ready k d (loseLock d) :=
  ⟨⟨rfl, rfl, rfl, rfl⟩, ⟨rfl, rfl⟩, ⟨rfl, rfl⟩, ⟨rfl, rfl⟩, ⟨rfl, rfl, rfl, rfl⟩, rfl, rfl⟩

theorem Ready.closeFill (ready : Ready k d c) (ne : k ≠ f) (lost : Bool) : Ready k d (closeFill f lost c) := by
  obtain ⟨⟨control, port, arbiter, delivery⟩, ⟨job, claiming⟩, ⟨slot, slots⟩, ⟨spans, lists⟩, ⟨lock, draining, nextFrame, drainFrame⟩,
    reports, overwritten⟩ := ready
  have work := FillWork.closeTable f c
  obtain ⟨control', port', arbiter', engine', delivery'⟩ := work.same
  have entry := slotAt_closeFill_ne ne lost c
  have list : spansOf (Machine.closeFill f lost c) k = spansOf c k := by
    rw [closeFill_eq, ← work.spans.2 k ne]
    simp [spansOf, fillClosed, List.getD, List.getElem?_set_ne ne.symm]
  have ring : (Machine.closeFill f lost c).ring = { c.ring with
      slots := (Machine.closeFill f lost c).ring.slots, fillOpen := false } := by
    rw [closeFill_eq]
    exact congrArg (fun y => { y with slots := (fillClosed f lost (closeTable f c)).ring.slots, fillOpen := false }) work.ring
  have report : (Machine.closeFill f lost c).reports = { c.reports with counters := (Machine.closeFill f lost c).reports.counters } ∧
      (Machine.closeFill f lost c).reports.counters.framesOverwritten = c.reports.counters.framesOverwritten := by
    rw [closeFill_eq]
    simp only [fillClosed]
    rw [work.reports]
    exact ⟨rfl, rfl⟩
  rw [closeFill_eq] at *
  refine ⟨⟨control'.trans control, port'.trans port, arbiter'.trans arbiter, delivery'.trans delivery⟩,
    ⟨(congrArg Engine.job engine').trans job, (congrArg Engine.claiming engine').trans claiming⟩, ⟨entry.trans slot, ?_⟩,
    ⟨list.trans spans, ?_⟩, ?_, ?_, report.2.trans overwritten⟩
  · rw [← slots, ← work.slots.1]
    exact List.length_set
  · rw [← lists, ← work.spans.1]
    exact List.length_set
  · rw [ring]
    exact ⟨lock, draining, nextFrame, drainFrame⟩
  · rw [report.1, reports]

theorem Ready.closeOpenFill (ready : Ready k d c) (ne : c.ring.fillSlot ≠ some k) (lost : Bool) : Ready k d (closeOpenFill lost c) := by
  cases open_ : c.ring.fillOpen with
  | false => rwa [closeOpenFill_shut open_]
  | true =>
    cases slot : c.ring.fillSlot with
    | none =>
      simp only [Machine.closeOpenFill, slot]
      exact ready
    | some f =>
      rw [closeOpenFill_open slot open_]
      exact ready.closeFill (fun same => ne (by rw [slot, same])) lost

theorem slotAfter_ne {g : Geometry} (slots : 2 ≤ g.slots) (k : Nat) : slotAfter g k ≠ k := fun same => by
  unfold slotAfter at same
  have inside : k < g.slots := same ▸ Nat.mod_lt _ (by omega)
  by_cases last : k + 1 = g.slots
  · rw [last, Nat.mod_self] at same
    omega
  · rw [Nat.mod_eq_of_lt (by omega)] at same
    omega

theorem madeReady_ready (slots : 2 ≤ d.control.geometry.slots) (k : Nat) : Ready k d (madeReady k d) := by
  unfold madeReady
  split
  · exact .refl k d
  · split
    · next advance =>
      refine (Ready.refl k d).closeOpenFill (fun slot => ?_) false
      rw [slot, Option.map_some] at advance
      exact slotAfter_ne slots k (Option.some.inj advance)
    · split
      · exact .loseLock k d
      · next other => exact (Ready.loseLock k d).closeOpenFill other true

/-! ### The slot begun, and the first beat taken (R27, R54, R76, R117) -/

/-- The part as a write's first beat of full enables leaves it, slot k being begun: its old frame disposed of, its spans freed, the new
frame FILLING, line 0 open. -/
def begunBy (k : Nat) (b : Beat) (d : Device) : Device :=
  let x := disposeFrame k (madeReady k d)
  { abortJobOf k x with
    ring := { x.ring with
      slots := x.ring.slots.set k (fillingEntry x.ring.nextFrame (overwrites (slotAt (madeReady k d) k).state)),
      nextFrame := x.ring.nextFrame + 1, fillSlot := some k, fillOpen := true,
      lock := if d.ring.lock = some .seeking then some .locked else x.ring.lock }
    map := { x.map with spans := x.map.spans.set k [] }
    engine := { (abortJobOf k x).engine with order := x.engine.order.filter fun y => y.slot != k }
    checker := firstLineOpen d.control.geometry b }

theorem abortJobOf_order (k : Nat) (d : Device) : (abortJobOf k d).engine.order = d.engine.order := by
  unfold abortJobOf
  split
  · split <;> rfl
  · rfl

theorem fillWith_freeSpans (k : Nat) (w : Bool) (d : Device) : fillWith k w (freeSpans k d) = { abortJobOf k d with
    ring := { d.ring with slots := d.ring.slots.set k (fillingEntry d.ring.nextFrame w), nextFrame := d.ring.nextFrame + 1,
                          fillSlot := some k, fillOpen := true }
    map := { d.map with spans := d.map.spans.set k [] }
    engine := { (abortJobOf k d).engine with order := d.engine.order.filter fun y => y.slot != k } } := by
  rw [freeSpans, setSpans_eq, fillWith_eq]
  simp only [leaveOrder, abortJobOf_ring, abortJobOf_map, abortJobOf_order]

theorem madeReady_control (k : Nat) (d : Device) : (madeReady k d).control = d.control := by
  unfold madeReady
  split_ifs <;> simp

theorem checkBeat_beginWrite (lines : 0 < d.control.geometry.lines) (full : x = ⟨true, true, true, true⟩) :
    checkBeat k 0 0 b x (beginWrite k d) = begunBy k b d := by
  have control := madeReady_control k d
  have begun_ : beginWrite k d = startTable { fillWith k (overwrites (slotAt (madeReady k d) k).state)
      (freeSpans k (disposeFrame k (madeReady k d))) with
      ring := { (fillWith k (overwrites (slotAt (madeReady k d) k).state) (freeSpans k (disposeFrame k (madeReady k d)))).ring with
        lock := if d.ring.lock = some .seeking then some .locked else (disposeFrame k (madeReady k d)).ring.lock } } := by
    have kept : (disposeFrame k (madeReady k d)).ring.lock =
        (fillWith k (overwrites (slotAt (madeReady k d) k).state) (freeSpans k (disposeFrame k (madeReady k d)))).ring.lock := by
      rw [fillWith_freeSpans]
    rw [kept]
    unfold beginWrite madeReady
    split
    · rfl
    · split
      · rfl
      · rw [jumpTo]
        rfl
  rw [begun_, checkBeat_startTable _ full, fillWith_freeSpans]
  · simp only [begunBy, abortJobOf_control, disposeFrame_control, control]
  · rw [fillWith_freeSpans]
    simpa [control] using lines

theorem exec_firstBeat (at_ : WritesLine s u k 0 0) (first : u.next = 0) (lines : 0 < s.control.geometry.lines)
    (full : x = ⟨true, true, true, true⟩) (b : Beat) :
    exec (.writeBeatAccepted b x) s = .next { s with toDevice := wakeEngine (begunBy k b (withBeatAccepted s u b x)) } := by
  rw [exec_writesLine at_, runningBeat, if_pos (by simp [first]), checkBeat_beginWrite (d := withBeatAccepted s u b x) lines full]

theorem exec_begins (h : BeginsSlot s u k x) (b : Beat) :
    exec (.writeBeatAccepted b x) s = .next { s with toDevice := wakeEngine (begunBy k b (withBeatAccepted s u b x)) } := by
  obtain ⟨⟨ht, write, mode, first, beats⟩, ⟨running, -, lines, -⟩, ⟨name, -⟩, full⟩ := h
  exact exec_firstBeat ⟨⟨ht, write, mode, by omega⟩, running, by rw [first]; exact name⟩ first lines full b

/-! ### The frame that slot k held (R27, R28, R142, R147) -/

theorem report_counters (y : Ending) (d : Device) : (report y d).reports.counters = (countFrame y.endKind d).reports.counters := by
  rw [report, offerReport_counters, foldQuality_counters]

/-- A report counts a frame overwritten or drained, and nothing else. -/
theorem report_overwritten {y : Ending} (kind : y.endKind = .overwritten) (d : Device) : (report y d).reports.counters =
    { d.reports.counters with framesOverwritten := min (d.reports.counters.framesOverwritten + 1) 4294967295 } := by
  rw [report_counters, kind]
  rfl

theorem foldQuality_zero (d : Device) : (foldQuality 0 d).reports.lastQuality = 0 ∧ (foldQuality 0 d).reports.runQuality = 0 := by
  have worst : (qualityAfter d.control.repair.recovery d.reports.runQuality d.reports.recovery 0).1 = 0 := by
    unfold qualityAfter
    split
    · rfl
    · rw [if_pos (by omega)]
      omega
  unfold foldQuality
  extract_lets before after e
  split <;> exact ⟨rfl, worst⟩

theorem offerReport_quality (p : FrameReport) (d : Device) : (offerReport p d).reports.lastQuality = d.reports.lastQuality ∧
    (offerReport p d).reports.runQuality = d.reports.runQuality := by
  unfold offerReport
  extract_lets stored
  split_ifs <;> exact ⟨rfl, rfl⟩

/-- An OVERWRITTEN report has quality 0, and the run's quality is 0 (R149, R151). -/
theorem report_worst {y : Ending} (kind : y.endKind = .overwritten) (d : Device) : (buildReport d y).quality = 0 ∧
    (report y d).reports.lastQuality = 0 ∧ (report y d).reports.runQuality = 0 := by
  have zero : (buildReport d y).quality = 0 := by simp [buildReport, qualityIndex, kind]
  simp only [report, offerReport_quality, zero]
  exact ⟨trivial, foldQuality_zero _⟩

/-- With room in the queue a report joins it with the pending gap. -/
theorem report_joins (y : Ending) (room : d.reports.queue.length < 32) : (report y d).reports.queue =
    d.reports.queue ++ [{ buildReport d y with gap := d.reports.gap }] := by
  rw [report, offerReport_queue _ (by rw [foldQuality_queue, countFrame_queue]; exact room), foldQuality_queue, countFrame_queue,
    foldQuality_gap, countFrame_gap]

theorem disposeFrame_gone (gone : (slotAt d k).state = .empty ∨ (slotAt d k).state = .drained) : disposeFrame k d = d := by
  rcases gone with gone | gone <;> simp only [disposeFrame, gone]

theorem disposeFrame_undrained (held : (slotAt d k).state = .filling ∨ (slotAt d k).state = .filled) :
    disposeFrame k d = raise .frameOverwritten (report (undrainedEnding (slotAt d k).frame k) d) := by
  rcases held with held | held <;> simp only [disposeFrame, held]

/-- What a frame that is being drained brings to the report unit as it is overwritten (R142). -/
def overwrittenDrain (d : Device) (r : DrainRecord) : Ending := recordEnding (fillTallies d { r with endKind := .overwritten })

theorem disposeFrame_draining (drains : (slotAt d k).state = .draining) (record : d.delivery.record = some r) :
    disposeFrame k d = noDraining (raise .frameOverwritten
      { report (overwrittenDrain d r) d with delivery := { d.delivery with record := none } }) := by
  simp only [disposeFrame, drains, handOverDraining, record, handOverRecord_delivery]
  rfl

/-- The disposal counts a frame overwritten at most. -/
theorem disposeFrame_counters (k : Nat) (d : Device) : (disposeFrame k d).reports.counters = { d.reports.counters with
    framesOverwritten := (disposeFrame k d).reports.counters.framesOverwritten } := by
  have undrained : ∀ held, disposeFrame k d = _ := disposeFrame_undrained
  cases state : (slotAt d k).state with
  | empty => rw [disposeFrame_gone (.inl state)]
  | drained => rw [disposeFrame_gone (.inr state)]
  | filling => rw [undrained (.inl state), raise_reports, report_overwritten rfl]
  | filled => rw [undrained (.inr state), raise_reports, report_overwritten rfl]
  | draining =>
    cases record : d.delivery.record with
    | none =>
      have none_ : disposeFrame k d = noDraining (raise .frameOverwritten d) := by
        simp only [disposeFrame, state, handOverDraining, record]
      rw [none_]
      rfl
    | some r =>
      rw [disposeFrame_draining state record, noDraining_reports, raise_reports]
      dsimp only
      rw [report_overwritten (y := overwrittenDrain d r) rfl]

theorem raise_frameOverwritten (d : Device) : (raise .frameOverwritten d).link.causes.getLsbD 6 = true := by
  rw [raise_link_causes, BitVec.getLsbD_or, show (BitVec.ofNat 10 (2 ^ causeBit .frameOverwritten)).getLsbD 6 = true from rfl, Bool.or_true]

end

end Sys2Proof.Machine

namespace Sys2Proof.Filling

open Sys2Proof.Machine

/-- Settles O38: the old frame's state says what is reported of it, before its spans are freed. -/
theorem overwrittenFramesAreReported : Obligations.OverwrittenFramesAreReported := by
  intro b e s u k h
  have ready := madeReady_ready (d := withBeatAccepted s u b e) h.running.2.1 k
  obtain ⟨c, hc⟩ : ∃ c, c = madeReady k (withBeatAccepted s u b e) := ⟨_, rfl⟩
  rw [← hc] at ready
  have entry : slotAt c k = slotAt s.toDevice k := ready.slot.1
  have delivery : c.delivery = s.delivery := ready.same.2.2.2
  have reports : c.reports = { s.reports with counters := c.reports.counters } := ready.reports
  have counted : c.reports.counters.framesOverwritten = s.reports.counters.framesOverwritten := ready.overwritten
  have spans : spansOf c k = spansOf s.toDevice k := ready.spans.1
  have queue : c.reports.queue = s.reports.queue := by rw [reports]
  have gap : c.reports.gap = s.reports.gap := by rw [reports]
  have kept : ∀ t : Device, t = wakeEngine (begunBy k b (withBeatAccepted s u b e)) → t.reports = (disposeFrame k c).reports ∧
      t.link = (disposeFrame k c).link ∧ t.delivery = (disposeFrame k c).delivery := fun t ht => by
    rw [ht, wakeEngine_reports, wakeEngine_link, wakeEngine_delivery, hc]
    simp only [begunBy, abortJobOf_reports, abortJobOf_link, abortJobOf_delivery, and_self]
  obtain ⟨r0, l0, d0⟩ := kept _ rfl
  refine ⟨_, exec_begins h b, fun gone => ?_, fun held => ?_, fun r drains record => ?_⟩
  · rw [← entry] at gone
    rw [disposeFrame_gone gone] at r0 d0
    refine ⟨?_, ?_, ?_, d0.trans delivery, ?_⟩
    all_goals rw [r0]
    · exact queue
    · rw [reports]
    · rw [reports]
    · exact counted
  · rw [← entry] at held
    rw [disposeFrame_undrained held] at r0 l0 d0
    obtain ⟨zero, last, run⟩ := report_worst (y := undrainedEnding (slotAt c k).frame k) rfl c
    refine ⟨?_, ?_, ?_, d0.trans (by simpa using delivery), ?_, fun room => ?_⟩
    · rw [l0]
      exact raise_frameOverwritten _
    · rw [r0]
      exact last
    · rw [r0]
      exact run
    · rw [r0, raise_reports, report_overwritten rfl, counted]
    · rw [r0, raise_reports, report_joins _ (by rwa [queue]), queue, gap, ← entry]
      refine ⟨_, rfl, rfl, rfl, rfl, rfl, rfl, zero, rfl, rfl, rfl, fun wf => ?_⟩
      rw [← spans] at wf ⊢
      exact buildReport_lines (e := undrainedEnding (slotAt c k).frame k) wf
  · rw [← entry] at drains
    rw [disposeFrame_draining drains (delivery ▸ record)] at r0 l0 d0
    obtain ⟨zero, last, run⟩ := report_worst (y := overwrittenDrain c r) rfl c
    rw [noDraining_reports, raise_reports] at r0
    refine ⟨?_, ?_, ?_, d0.trans (by simp only [noDraining_delivery, raise_delivery, delivery]), ?_, fun room => ?_⟩
    · rw [l0]
      exact raise_frameOverwritten _
    · rw [r0]
      exact last
    · rw [r0]
      exact run
    · rw [r0]
      dsimp only
      rw [report_overwritten (y := overwrittenDrain c r) rfl, counted]
    · have joins := report_joins (d := c) (overwrittenDrain c r) (by rwa [queue])
      rw [queue, gap] at joins
      rw [r0]
      exact ⟨_, joins, rfl, rfl, rfl, rfl, zero, rfl, rfl, rfl, rfl⟩

end Sys2Proof.Filling
end

section
/-! PROOFS. A begun slot, and the ring, the counts and the engine by the way it was begun (sections 2.4, 2.5, 4.7 and 6.6). -/

namespace Sys2Proof.Machine

section
variable {c d e : Device} {s : State} {u : BurnerTransfer} {k f i n : Nat} {b : Beat} {x : Enables} {lost : Bool}

/-! ### The close of a fill, as the other units see it -/

theorem closeFill_entry (inside : f < d.ring.slots.length) (lost : Bool) : ∃ lossy, slotAt (closeFill f lost d) f = { slotAt d f with
    state := closedState (slotAt d f).state
    flags := { (slotAt d f).flags with seek := (slotAt d f).flags.seek || lost, lossy := lossy } } := by
  have work := FillWork.closeTable f d
  have own : slotAt (closeFill f lost d) f = { slotAt (closeTable f d) f with
      state := closedState (slotAt (closeTable f d) f).state
      flags := { (slotAt (closeTable f d) f).flags with seek := (slotAt (closeTable f d) f).flags.seek || lost } } := by
    rw [closeFill_eq]
    simp [slotAt, fillClosed, List.getD, work.slots.1, inside]
  rw [own, work.entry]
  exact ⟨_, rfl⟩

theorem closeFill_counters (f : Nat) (lost : Bool) (d : Device) :
    (closeFill f lost d).reports.counters.lockLosses = d.reports.counters.lockLosses ∧
      (closeFill f lost d).reports.counters.framesFilled = min (d.reports.counters.framesFilled + 1) 4294967295 := by
  rw [closeFill_eq]
  simp only [fillClosed]
  rw [(FillWork.closeTable f d).reports]
  exact ⟨rfl, rfl⟩

theorem closeFill_lockHeld (f : Nat) (lost : Bool) (d : Device) : (closeFill f lost d).ring.lockHeld = d.ring.lockHeld := by
  rw [closeFill_eq]
  show (closeTable f d).ring.lockHeld = _
  rw [(FillWork.closeTable f d).ring]

theorem handOver_map (same : e.map = d.map) (k i : Nat) (y : Causes) (first : Bool) :
    (handOver k i y first e).map = (handOver k i y first d).map := by
  have recorded_ : recorded e k i y first = recorded d k i y first := by rw [recorded, recorded, spansOf, spansOf, same]
  rw [handOver_eq, handOver_eq, recorded_, same]

theorem missLines_map (l : List Nat) (same : e.map = d.map) (k : Nat) :
    (l.foldl (fun d i => missLine k i d) e).map = (l.foldl (fun d i => missLine k i d) d).map := by
  induction l generalizing d e with
  | nil => exact same
  | cons i l ih => exact ih (handOver_map (e := setStatus i .missing e) (d := setStatus i .missing d) same ..)

/-- The checker and the map alone say what the close of a fill makes of the map. -/
theorem closeTable_map (map : e.map = d.map) (checker : e.checker = d.checker) (k : Nat) : (closeTable k e).map = (closeTable k d).map := by
  have torn : (tornOpen k e).map = (tornOpen k d).map := by
    unfold tornOpen
    rw [checker]
    split
    · next c _ => exact handOver_map (e := setContext none (setStatus c.line .torn e)) (d := setContext none (setStatus c.line .torn d)) map ..
    · exact map
  rw [closeTable_eq, closeTable_eq, tornOpen_checker, tornOpen_checker, checker]
  exact missLines_map _ torn k

theorem closeFill_order (map : e.map = d.map) (checker : e.checker = d.checker) (order : e.engine.order = d.engine.order) (f : Nat)
    (lost : Bool) : (closeFill f lost e).engine.order = (closeFill f lost d).engine.order := by
  rw [closeFill_eq, closeFill_eq]
  simp only [fillClosed]
  rw [closeTable_engine, closeTable_engine, order, spansOf, spansOf, closeTable_map map checker]

/-! ### The three ways (R29, R30, R34) -/

theorem madeReady_seeking (seeking : d.ring.lock = some .seeking) (k : Nat) : madeReady k d = d := if_pos seeking

theorem madeReady_advance (locked : d.ring.lock ≠ some .seeking) (slot : d.ring.fillSlot = some f)
    (next : k = (f + 1) % d.control.geometry.slots) : madeReady k d = closeOpenFill false d := by
  rw [madeReady, if_neg locked, slot, Option.map_some, slotAfter, ← next, if_pos rfl]

theorem madeReady_jump (locked : d.ring.lock ≠ some .seeking) (slot : d.ring.fillSlot = some f)
    (elsewhere : k ≠ (f + 1) % d.control.geometry.slots) : madeReady k d =
      if f = k then loseLock d else closeOpenFill true (loseLock d) := by
  rw [madeReady, if_neg locked, slot, Option.map_some, slotAfter, if_neg fun same => elsewhere (Option.some.inj same).symm]
  simp only [Option.some.injEq]

/-- The order as slot k is begun, no other slot's fill being open. -/
theorem madeReady_order_kept (slots : 2 ≤ d.control.geometry.slots) (none_ : d.ring.fillOpen = false ∨ d.ring.fillSlot = some k) :
    (madeReady k d).engine.order = d.engine.order := by
  unfold madeReady
  split
  · rfl
  · split
    · next advance =>
      rcases none_ with shut | own
      · rw [closeOpenFill_shut shut]
      · rw [own, Option.map_some] at advance
        exact absurd (Option.some.inj advance) (slotAfter_ne slots k)
    · split
      · rfl
      · next other =>
        rw [closeOpenFill_shut (d := loseLock d) (none_.resolve_right other)]
        rfl

/-- The order as slot k is begun, the fill of slot f being open. -/
theorem madeReady_order_closed (locked : d.ring.lock ≠ some .seeking) (slot : d.ring.fillSlot = some f) (open_ : d.ring.fillOpen = true)
    (ne : f ≠ k) : (madeReady k d).engine.order =
      (closeFill f (decide (k ≠ (f + 1) % d.control.geometry.slots)) d).engine.order := by
  by_cases next : k = (f + 1) % d.control.geometry.slots
  · rw [madeReady_advance locked slot next, closeOpenFill_open slot open_, decide_eq_false (not_not.2 next)]
  · rw [madeReady_jump locked slot next, if_neg ne, closeOpenFill_open (d := loseLock d) slot open_, decide_eq_true next]
    exact closeFill_order (e := loseLock d) (d := d) (loseLock_map d) (loseLock_checker d) (congrArg Engine.order (loseLock_engine d)) f true

/-- While LOCKED: a jump at slot f itself loses lock and closes nothing, any other way closes an open fill of slot f, a jump after losing
lock. -/
theorem madeReady_locked (slots : 2 ≤ d.control.geometry.slots) (locked : d.ring.lock ≠ some .seeking) (slot : d.ring.fillSlot = some f) :
    madeReady k d = if f = k then loseLock d else closeOpenFill (decide (k ≠ (f + 1) % d.control.geometry.slots))
      (if k = (f + 1) % d.control.geometry.slots then d else loseLock d) := by
  by_cases next : k = (f + 1) % d.control.geometry.slots
  · have ne : f ≠ k := fun same => slotAfter_ne slots f (by rw [slotAfter, ← next, same])
    rw [madeReady_advance locked slot next, if_neg ne, if_pos next, decide_eq_false (not_not.2 next)]
  · rw [madeReady_jump locked slot next, if_neg next, decide_eq_true next]

theorem closeOpenFill_lock (lost : Bool) (d : Device) : (closeOpenFill lost d).ring.lockHeld = d.ring.lockHeld ∧
    (closeOpenFill lost d).reports.counters.lockLosses = d.reports.counters.lockLosses := by
  unfold closeOpenFill
  split
  · split
    · exact ⟨closeFill_lockHeld .., (closeFill_counters ..).1⟩
    · exact ⟨rfl, rfl⟩
  · exact ⟨rfl, rfl⟩

/-- The slots that the begin of slot k does not touch. -/
theorem madeReady_slot (slots : 2 ≤ d.control.geometry.slots) (locked : d.ring.lock ≠ some .seeking) (slot : d.ring.fillSlot = some f)
    (kept : i ≠ f ∨ d.ring.fillOpen = false) : slotAt (madeReady k d) i = slotAt d i := by
  have closes : ∀ lost e, e.ring = d.ring ∨ e = loseLock d → slotAt (closeOpenFill lost e) i = slotAt d i := fun lost e he => by
    have same : slotAt e i = slotAt d i ∧ e.ring.fillSlot = some f ∧ e.ring.fillOpen = d.ring.fillOpen := by
      rcases he with ring | rfl
      · rw [slotAt, ring]
        exact ⟨rfl, slot, rfl⟩
      · exact ⟨rfl, slot, rfl⟩
    cases open_ : d.ring.fillOpen with
    | false => rw [closeOpenFill_shut (same.2.2.trans open_), same.1]
    | true =>
      have ne : i ≠ f := kept.resolve_right (by simp [open_])
      rw [closeOpenFill_open same.2.1 (same.2.2.trans open_), slotAt_closeFill_ne ne, same.1]
  rw [madeReady_locked slots locked slot]
  split
  · rfl
  · split
    · exact closes _ _ (.inl rfl)
    · exact closes _ _ (.inr rfl)

/-- An advance keeps LOCK_HELD and counts no lock loss (R29). -/
theorem madeReady_advance_lock (locked : d.ring.lock ≠ some .seeking) (slot : d.ring.fillSlot = some f)
    (next : k = (f + 1) % d.control.geometry.slots) : (madeReady k d).ring.lockHeld = d.ring.lockHeld ∧
      (madeReady k d).reports.counters.lockLosses = d.reports.counters.lockLosses := by
  rw [madeReady_advance locked slot next]
  exact closeOpenFill_lock ..

/-- A jump is a lock loss counted (R30). -/
theorem madeReady_jump_lock (locked : d.ring.lock ≠ some .seeking) (slot : d.ring.fillSlot = some f)
    (elsewhere : k ≠ (f + 1) % d.control.geometry.slots) : (madeReady k d).ring.lockHeld = false ∧
      (madeReady k d).reports.counters.lockLosses = min (d.reports.counters.lockLosses + 1) 4294967295 ∧
      Keeps (loseLock d) (madeReady k d) := by
  rw [madeReady_jump locked slot elsewhere]
  split
  · exact ⟨rfl, rfl, .refl _⟩
  · obtain ⟨held, losses⟩ := closeOpenFill_lock true (loseLock d)
    exact ⟨held, losses, (Keeps.refl _).closeOpenFill true⟩

theorem loseLock_counters (d : Device) : (loseLock d).reports.counters.framesFilled = d.reports.counters.framesFilled := rfl

/-- With no other slot's fill open none is closed. -/
theorem madeReady_unfilled (slots : 2 ≤ d.control.geometry.slots) (locked : d.ring.lock ≠ some .seeking) (slot : d.ring.fillSlot = some f)
    (none_ : d.ring.fillOpen = false ∨ f = k) : (madeReady k d).reports.counters.framesFilled = d.reports.counters.framesFilled := by
  rw [madeReady_locked slots locked slot]
  split
  · rfl
  · next ne =>
    have shut := none_.resolve_right ne
    split
    · rw [closeOpenFill_shut shut]
    · rw [closeOpenFill_shut (d := loseLock d) shut, loseLock_counters]

/-- An open fill of another slot is closed, with SEEK at a jump (R26, R29, R30). -/
theorem madeReady_filled (slots : 2 ≤ d.control.geometry.slots) (locked : d.ring.lock ≠ some .seeking) (slot : d.ring.fillSlot = some f)
    (open_ : d.ring.fillOpen = true) (ne : f ≠ k) (inside : f < d.ring.slots.length) :
    (madeReady k d).reports.counters.framesFilled = min (d.reports.counters.framesFilled + 1) 4294967295 ∧
      ∃ lossy, slotAt (madeReady k d) f = { slotAt d f with
        state := closedState (slotAt d f).state
        flags := { (slotAt d f).flags with
          seek := (slotAt d f).flags.seek || decide (k ≠ (f + 1) % d.control.geometry.slots), lossy := lossy } } := by
  rw [madeReady_locked slots locked slot, if_neg ne]
  split
  · rw [closeOpenFill_open slot open_]
    exact ⟨(closeFill_counters ..).2, closeFill_entry inside _⟩
  · rw [closeOpenFill_open (d := loseLock d) slot open_]
    exact ⟨(closeFill_counters ..).2, closeFill_entry (d := loseLock d) inside _⟩

/-! ### The ring and the engine with slot k begun (R27, R76, R117) -/

theorem begunBy_ring (k : Nat) (b : Beat) (d : Device) : (begunBy k b d).ring = { (madeReady k d).ring with
    slots := (madeReady k d).ring.slots.set k (fillingEntry (madeReady k d).ring.nextFrame (overwrites (slotAt (madeReady k d) k).state))
    nextFrame := (madeReady k d).ring.nextFrame + 1
    fillSlot := some k
    fillOpen := true
    draining := if (slotAt (madeReady k d) k).state = .draining then none else (madeReady k d).ring.draining
    lock := if d.ring.lock = some .seeking then some .locked else (madeReady k d).ring.lock } := by
  simp only [begunBy]
  rw [(disposeFrame_ring k (madeReady k d)).1]
  split <;> rfl

theorem overwrites_eq (y : SlotState) : overwrites y = decide (y = .filling ∨ y = .filled ∨ y = .draining) := by cases y <;> rfl

theorem begunBy_slot_self (inside : k < (madeReady k d).ring.slots.length) (b : Beat) : slotAt (begunBy k b d) k =
    fillingEntry (madeReady k d).ring.nextFrame (overwrites (slotAt (madeReady k d) k).state) := by
  rw [slotAt, begunBy_ring]
  simp [List.getD, inside]

theorem begunBy_slot_ne (ne : i ≠ k) (b : Beat) (d : Device) : slotAt (begunBy k b d) i = slotAt (madeReady k d) i := by
  rw [slotAt, begunBy_ring]
  simp [slotAt, List.getD, List.getElem?_set_ne ne.symm]

theorem begunBy_counters (k : Nat) (b : Beat) (d : Device) :
    (begunBy k b d).reports.counters.lockLosses = (madeReady k d).reports.counters.lockLosses ∧
      (begunBy k b d).reports.counters.framesFilled = (madeReady k d).reports.counters.framesFilled := by
  have same : (begunBy k b d).reports = (disposeFrame k (madeReady k d)).reports := by simp [begunBy]
  rw [same, disposeFrame_counters]
  exact ⟨rfl, rfl⟩

theorem begunBy_order (k : Nat) (b : Beat) (d : Device) :
    (begunBy k b d).engine.order = (madeReady k d).engine.order.filter fun y => y.slot != k := by
  simp only [begunBy, disposeFrame_engine]

/-- A job on slot k is aborted as the slot is begun (R117, R119). -/
theorem begunBy_aborts (ready : Ready k d (madeReady k d)) {j : Job} (job : d.engine.job = some j) (own : j.slot = k) (b : Beat) :
    (begunBy k b d).engine.job = none ∧ (begunBy k b d).engine.claiming = false ∧
      (begunBy k b d).arbiter = { d.arbiter with onBus := d.arbiter.onBus.map fun m => { m with orphan := m.orphan || m.byEngine } } := by
  have here : (disposeFrame k (madeReady k d)).engine.job = some j := by rw [disposeFrame_engine, ready.engine.1, job]
  subst own
  simp only [begunBy, abortJobOf_own here]
  refine ⟨rfl, rfl, ?_⟩
  simp only [jobAborted, disposeFrame_arbiter, ready.same.2.2.1]

/-- Any other job goes on. -/
theorem begunBy_goesOn (ready : Ready k d (madeReady k d)) (other : ∀ j, d.engine.job = some j → j.slot ≠ k) (b : Beat) :
    (begunBy k b d).engine.job = d.engine.job ∧ (begunBy k b d).engine.claiming = d.engine.claiming ∧ (begunBy k b d).arbiter = d.arbiter := by
  have here : abortJobOf k (disposeFrame k (madeReady k d)) = disposeFrame k (madeReady k d) :=
    abortJobOf_other fun j hj => other j (by rwa [disposeFrame_engine, ready.engine.1] at hj)
  simp only [begunBy, here, disposeFrame_engine, disposeFrame_arbiter]
  exact ⟨ready.engine.1, ready.engine.2, ready.same.2.2.1⟩

/-- The causes that stand as slot k is made ready stand with it begun. -/
theorem begunBy_cause {bit : Nat} (kept : Keeps e (madeReady k d)) (raised : e.link.causes.getLsbD bit = true) (b : Beat) :
    (begunBy k b d).link.causes.getLsbD bit = true := by
  have same : (begunBy k b d).link = (disposeFrame k (madeReady k d)).link := by simp [begunBy]
  rw [← (kept.disposeFrame k).causes, BitVec.getLsbD_and, Bool.and_eq_true] at raised
  rw [same]
  exact raised.2

theorem spansOf_begunBy (k : Nat) (b : Beat) (d : Device) : spansOf (begunBy k b d) k = [] := by
  by_cases lists : k < (madeReady k d).map.spans.length
  · simp [begunBy, spansOf, List.getD, lists]
  · exact spansOf_beyond (by simpa [begunBy] using lists)

/-- What a part t is in which slot k is begun: d the part before the begin, c the part made ready for it. -/
structure BegunFrom (d : Device) (k : Nat) (c t : Device) : Prop where
  entry : slotAt t k = fillingEntry d.ring.nextFrame (overwrites (slotAt d k).state)
  others : ∀ i, i ≠ k → slotAt t i = slotAt c i
  lock : t.ring.lock = (if d.ring.lock = some .seeking then some .locked else d.ring.lock) ∧ t.ring.lockHeld = c.ring.lockHeld
  fill : t.ring.fillSlot = some k ∧ t.ring.fillOpen = true ∧ t.ring.nextFrame = d.ring.nextFrame + 1
  drain : t.ring.drainFrame = d.ring.drainFrame ∧
    t.ring.draining = if (slotAt d k).state = .draining then none else d.ring.draining
  spans : spansOf t k = []
  table : t.checker.table = (List.replicate d.control.geometry.lines .unwritten).set 0 .lineOpen
  counters : t.reports.counters.lockLosses = c.reports.counters.lockLosses ∧
    t.reports.counters.framesFilled = c.reports.counters.framesFilled
  causes : ∀ bit e, Keeps e c → e.link.causes.getLsbD bit = true → t.link.causes.getLsbD bit = true

theorem begunFrom (slots : 2 ≤ d.control.geometry.slots) (inside : k < d.ring.slots.length) (b : Beat) :
    BegunFrom d k (madeReady k d) (wakeEngine (begunBy k b d)) := by
  have ready := madeReady_ready slots k
  have ring := (wakeEngine_ring _).trans (begunBy_ring k b d)
  have length := (SpansGrow.wakeEngine (begunBy k b d)).length k
  rw [spansOf_begunBy] at length
  refine ⟨?_, fun i ne => ?_, ⟨?_, ?_⟩, ⟨?_, ?_, ?_⟩, ⟨?_, ?_⟩, List.eq_nil_of_length_eq_zero length, ?_, ?_, fun bit e keeps raised => ?_⟩
  · rw [slotAt, wakeEngine_ring]
    refine (begunBy_slot_self (by rw [ready.slot.2]; exact inside) b).trans ?_
    rw [ready.ring.2.2.1, ready.slot.1]
  · rw [slotAt, wakeEngine_ring]
    exact begunBy_slot_ne ne b d
  · rw [ring, ready.ring.1]
  · rw [ring]
  · rw [ring]
  · rw [ring]
  · rw [ring, ready.ring.2.2.1]
  · rw [ring, ready.ring.2.2.2]
  · rw [ring, ready.slot.1, ready.ring.2.1]
  · rw [wakeEngine_checker]
    rfl
  · rw [wakeEngine_reports]
    exact begunBy_counters k b d
  · rw [wakeEngine_link]
    exact begunBy_cause keeps raised b

/-- What an advance onto a slot whose frame is gone or drained does, no fill being open (R29). -/
theorem begunBy_plainAdvance (lock : d.ring.lock = some .locked) (slot : d.ring.fillSlot = some f) (shut : d.ring.fillOpen = false)
    (next : k = (f + 1) % d.control.geometry.slots) (gone : (slotAt d k).state = .empty ∨ (slotAt d k).state = .drained)
    (other : ∀ j, d.engine.job = some j → j.slot ≠ k) (b : Beat) : begunBy k b d = { d with
      ring := { d.ring with
        slots := d.ring.slots.set k (fillingEntry d.ring.nextFrame false), nextFrame := d.ring.nextFrame + 1, fillSlot := some k, fillOpen := true }
      map := { d.map with spans := d.map.spans.set k [] }
      engine := { d.engine with order := d.engine.order.filter fun y => y.slot != k }
      checker := firstLineOpen d.control.geometry b } := by
  have locked : d.ring.lock ≠ some .seeking := by simp [lock]
  have ready : madeReady k d = d := by rw [madeReady_advance locked slot next, closeOpenFill_shut shut]
  have fresh : overwrites (slotAt d k).state = false := by
    rcases gone with gone | gone <;> rw [gone] <;> rfl
  simp only [begunBy, ready, disposeFrame_gone gone, abortJobOf_other other, fresh, locked, if_false]

end

end Sys2Proof.Machine

namespace Sys2Proof.Filling

open Sys2Proof.Machine

/-- Settles O37: what stood before the begin, slot k in it, and the engine after it. -/
theorem slotsAreBegun : Obligations.SlotsAreBegun := by
  refine ⟨fun b e s u k h => ?_, fun b e s u f k ht write mode first beats running locked slot shut next name lines samples full gone idle => ?_⟩
  · have slots : 2 ≤ (withBeatAccepted s u b e).control.geometry.slots := h.running.2.1
    have ready := madeReady_ready (d := withBeatAccepted s u b e) slots k
    have begun_ := begunFrom (d := withBeatAccepted s u b e) slots h.base.2 b
    have ring := wakeEngine_ring (begunBy k b (withBeatAccepted s u b e))
    have goes := exec_begins h b
    obtain ⟨t, ht⟩ : ∃ t, t = wakeEngine (begunBy k b (withBeatAccepted s u b e)) := ⟨_, rfl⟩
    rw [← ht] at begun_ goes ring
    obtain ⟨entry, others, ⟨lock, held⟩, ⟨fillSlot, fillOpen, nextFrame⟩, ⟨drainFrame, draining⟩, spans, table, ⟨losses, filled⟩, causes⟩ := begun_
    refine ⟨_, _, goes, entry, rfl, rfl, rfl, ?_, nextFrame, fillSlot, fillOpen, drainFrame, draining, fun _ => spans, table, fun seeking => ?_,
      fun f locked slot => ?_, fun f order horder => ?_⟩
    · simp only [fillingEntry, overwrites_eq]
      rfl
    · rw [madeReady_seeking (d := withBeatAccepted s u b e) seeking k] at others held losses filled
      exact ⟨lock.trans (if_pos seeking), held, losses, filled, others⟩
    · have here : (withBeatAccepted s u b e).ring.lock ≠ some .seeking := by
        rw [show (withBeatAccepted s u b e).ring.lock = some .locked from locked]
        simp
      have slot_ : (withBeatAccepted s u b e).ring.fillSlot = some f := slot
      refine ⟨lock.trans ((if_neg here).trans locked), fun i ne kept => ?_, fun next => ?_, fun elsewhere => ?_,
        fun none_ => filled.trans (madeReady_unfilled slots here slot_ none_), fun open_ ne room => ?_⟩
      · exact (others i ne).trans (madeReady_slot slots here slot_ kept)
      · obtain ⟨kept, lost⟩ := madeReady_advance_lock here slot_ next
        exact ⟨held.trans kept, losses.trans lost⟩
      · obtain ⟨fell, lost, keeps⟩ := madeReady_jump_lock here slot_ elsewhere
        refine ⟨held.trans fell, causes 2 _ keeps ?_, losses.trans lost⟩
        show (s.link.causes ||| 4).getLsbD 2 = true
        rw [BitVec.getLsbD_or, show (4 : BitVec 10).getLsbD 2 = true from rfl, Bool.or_true]
      · obtain ⟨counted, lossy, closed⟩ := madeReady_filled (k := k) slots here slot_ open_ ne room
        have entry_f := (others f ne).trans closed
        refine ⟨filled.trans counted, ?_, ?_, ?_, ?_⟩
        all_goals dsimp only; rw [entry_f]
        · exact closedState_eq _
        all_goals rfl
    · refine ⟨_, ht, ring.symm, ?_, fun j job own => begunBy_aborts ready job own b, fun other => begunBy_goesOn ready other b⟩
      rw [begunBy_order]
      rcases horder with ⟨none_, rfl⟩ | ⟨⟨locked, slot, open_, ne⟩, rfl⟩
      · rw [madeReady_order_kept slots none_]
        rfl
      · have here : (withBeatAccepted s u b e).ring.lock ≠ some .seeking := by
          rw [show (withBeatAccepted s u b e).ring.lock = some .locked from locked]
          simp
        rw [madeReady_order_closed (d := withBeatAccepted s u b e) here slot open_ ne]
        exact congrArg (List.filter fun y => y.slot != k) (closeFill_order (e := withBeatAccepted s u b e) (d := s.toDevice) rfl rfl rfl f _)
  · have at_ : WritesLine s u k 0 0 := ⟨⟨ht, write, mode, by omega⟩, running, by rw [first]; exact name⟩
    have other : ∀ j, s.engine.job = some j → j.slot ≠ k := fun j hj => by
      rcases idle with ⟨none_, -⟩ | ⟨y, hy, ne⟩
      · simp [none_] at hj
      · rwa [Option.some.inj (hj.symm.trans hy)]
    have plain := begunBy_plainAdvance (d := withBeatAccepted s u b e) locked slot shut next gone other b
    have goes := exec_firstBeat at_ first lines full b
    have rests : wakeEngine (begunBy k b (withBeatAccepted s u b e)) = begunBy k b (withBeatAccepted s u b e) := by
      rw [plain]
      rcases idle with ⟨-, none_⟩ | ⟨j, job, -⟩
      · exact wakeEngine_nil (by simp [withBeatAccepted, none_])
      · exact wakeEngine_busy job
    rw [rests, plain] at goes
    exact ⟨_, goes, rfl, rfl, rfl, rfl, rfl, rfl, rfl, rfl, rfl⟩

end Sys2Proof.Filling
end
